-- ==== Sys2Proof/Word.lean ====
section
/-! DEFINITION. The two word sizes of the machine (spec/00_scope.md R7, R9): the 8-bit byte, which is also the
addressable unit, and the 16-bit word of SP, PC and every address. -/

namespace Sys2Proof

/-- `u8` of R9. -/
abbrev Byte := BitVec 8

/-- `u16` of R9: SP, PC, the paired views, and every address. -/
abbrev Word := BitVec 16

end Sys2Proof
end

