-- ==== Sys2Proof/Config.lean ====
section
/-! DEFINITION. What the spec leaves to the implementation: the named parameters of spec/00_scope.md R8 as plain
data, and the free bytes an oracle bus answers with (spec/20_memory.md R62). InitMem is the memory of the state a run
starts from (assumption 3); the defaults of the others stand in Machine/Cycles.lean. -/

namespace Sys2Proof

/-- `STOP_LENGTH` (R111): whether STOP has a second byte. -/
inductive StopLength where
  | one
  | two
deriving DecidableEq, Repr

/-- The two instances of the `Bus` parameter that R62 names: (a) the plain 64 KiB array, (b) the oracle, whose
reads answer any byte and whose writes are recorded. -/
inductive BusKind where
  | plain
  | oracle
deriving DecidableEq, Repr

/-- `CYCLES` (R8, R400): the cycle counts of each opcode, indexed by the opcode byte, those of the extended table by the
second byte. No rule of the state transition depends on them (R400). -/
structure CycleTable where
  /-- The base cost of each primary entry, "not taken" for a conditional one (R93). Nothing reads the entries of the
  Invalid bytes and of the prefix, which report no count of their own. -/
  base : Vector Nat 256
  /-- What a conditional jump, call or return reports when it is taken. Nothing reads the other entries. -/
  taken : Vector Nat 256
  /-- The cost of each extended entry, the prefix byte counted. -/
  extended : Vector Nat 256
deriving DecidableEq, Repr

/-- The parameters of R8, carried by the state because no step may change them (assumption 1). -/
structure Params where
  stopLength : StopLength
  /-- `IRQ_DISPATCH` (R361 off, R362 on). -/
  irqDispatch : Bool
  /-- `ADDHL_CLEARS_N` (R231). -/
  addHlClearsN : Bool
  /-- `IDLE_CYCLES` (R341). -/
  idleCycles : Nat
  bus : BusKind
  /-- `CYCLES` (R400). -/
  cycles : CycleTable
deriving DecidableEq, Repr

/-- The free bytes of the oracle bus of R62(b): the `n`-th read of a run answers `Config.busDraw n`. It has no body,
so nothing can be proved of the byte an oracle read answers (assumption 6). -/
opaque Config.busDraw : Nat → Byte

end Sys2Proof
end

