-- ==== Sys2Proof/Machine/Bits.lean ====
section
/-! DEFINITION. Bit fields, byte order and widening of spec/00_scope.md R9 and R10. -/

namespace Sys2Proof

/-- `v[15:8]`. -/
def hiByte (v : Word) : Byte := v.extractLsb' 8 8

/-- `v[7:0]`. -/
def loByte (v : Word) : Byte := v.extractLsb' 0 8

/-- `hi:lo`, the high byte on the left (R9). -/
def joinBytes (hi lo : Byte) : Word := hi ++ lo

/-- `sext_16(e)` (R10): the byte read as two's complement. -/
def sext16 (e : Byte) : Word := e.signExtend 16

/-- `zext_16(n)` (R10). -/
def zext16 (n : Byte) : Word := n.setWidth 16

/-- The sub-field `x = opcode[7:6]` (R91). -/
def fieldX (op : Byte) : BitVec 2 := op.extractLsb' 6 2

/-- The sub-field `y = opcode[5:3]` (R91). -/
def fieldY (op : Byte) : BitVec 3 := op.extractLsb' 3 3

/-- The sub-field `z = opcode[2:0]` (R91). -/
def fieldZ (op : Byte) : BitVec 3 := op.extractLsb' 0 3

end Sys2Proof
end

