-- ==== Sys2Proof/Machine/Cycles.lean ====
section
/-! DEFINITION. The parameter CYCLES at its default, the table of spec/70_reset_and_hazards.md R400; the defaults of all
parameters of spec/00_scope.md R8; and the lookups in a table of costs. -/

namespace Sys2Proof

/-- Row 0x of `standardBase`. -/
def standardBase0 : List Nat :=
  [4, 12, 8, 8, 4, 4, 8, 4, 20, 8, 8, 8, 4, 4, 8, 4]

/-- Row 1x of `standardBase`. -/
def standardBase1 : List Nat :=
  [4, 12, 8, 8, 4, 4, 8, 4, 12, 8, 8, 8, 4, 4, 8, 4]

/-- Row 2x of `standardBase`. -/
def standardBase2 : List Nat :=
  [8, 12, 8, 8, 4, 4, 8, 4, 8, 8, 8, 8, 4, 4, 8, 4]

/-- Row 3x of `standardBase`. -/
def standardBase3 : List Nat :=
  [8, 12, 8, 8, 12, 12, 12, 4, 8, 8, 8, 8, 4, 4, 8, 4]

/-- Row 4x of `standardBase`. -/
def standardBase4 : List Nat :=
  [4, 4, 4, 4, 4, 4, 8, 4, 4, 4, 4, 4, 4, 4, 8, 4]

/-- Row 5x of `standardBase`. -/
def standardBase5 : List Nat :=
  [4, 4, 4, 4, 4, 4, 8, 4, 4, 4, 4, 4, 4, 4, 8, 4]

/-- Row 6x of `standardBase`. -/
def standardBase6 : List Nat :=
  [4, 4, 4, 4, 4, 4, 8, 4, 4, 4, 4, 4, 4, 4, 8, 4]

/-- Row 7x of `standardBase`. -/
def standardBase7 : List Nat :=
  [8, 8, 8, 8, 8, 8, 4, 8, 4, 4, 4, 4, 4, 4, 8, 4]

/-- Row 8x of `standardBase`. -/
def standardBase8 : List Nat :=
  [4, 4, 4, 4, 4, 4, 8, 4, 4, 4, 4, 4, 4, 4, 8, 4]

/-- Row 9x of `standardBase`. -/
def standardBase9 : List Nat :=
  [4, 4, 4, 4, 4, 4, 8, 4, 4, 4, 4, 4, 4, 4, 8, 4]

/-- Row Ax of `standardBase`. -/
def standardBaseA : List Nat :=
  [4, 4, 4, 4, 4, 4, 8, 4, 4, 4, 4, 4, 4, 4, 8, 4]

/-- Row Bx of `standardBase`. -/
def standardBaseB : List Nat :=
  [4, 4, 4, 4, 4, 4, 8, 4, 4, 4, 4, 4, 4, 4, 8, 4]

/-- Row Cx of `standardBase`. -/
def standardBaseC : List Nat :=
  [8, 12, 12, 16, 12, 16, 8, 16, 8, 16, 12, 0, 12, 24, 8, 16]

/-- Row Dx of `standardBase`. -/
def standardBaseD : List Nat :=
  [8, 12, 12, 0, 12, 16, 8, 16, 8, 16, 12, 0, 12, 0, 8, 16]

/-- Row Ex of `standardBase`. -/
def standardBaseE : List Nat :=
  [12, 12, 8, 0, 0, 16, 8, 16, 16, 4, 16, 0, 0, 0, 8, 16]

/-- Row Fx of `standardBase`. -/
def standardBaseF : List Nat :=
  [12, 12, 8, 4, 0, 16, 8, 16, 12, 8, 16, 4, 0, 0, 8, 16]

/-- R400, the base cost of each primary entry in clock cycles; 0 stands for an entry that reports none (the Invalid
entries and the prefix). -/
def standardBase : List Nat :=
  standardBase0 ++ standardBase1 ++ standardBase2 ++ standardBase3 ++ standardBase4 ++ standardBase5 ++ standardBase6 ++
  standardBase7 ++ standardBase8 ++ standardBase9 ++ standardBaseA ++ standardBaseB ++ standardBaseC ++ standardBaseD ++
  standardBaseE ++ standardBaseF

/-- R400, the larger cost of the conditional entries: JR cc, RET cc, JP cc and CALL cc; 0 stands for every other
entry. -/
def standardTaken (op : Byte) : Nat :=
  if op &&& 0xE7#8 = 0x20#8 then 12
  else if op &&& 0xE7#8 = 0xC0#8 then 20
  else if op &&& 0xE7#8 = 0xC2#8 then 16
  else if op &&& 0xE7#8 = 0xC4#8 then 24
  else 0

/-- R400, R240, the cost of each extended entry: register forms 8, memory forms 16, `BIT b,(HL)` 12. -/
def standardExtended (op2 : Byte) : Nat :=
  if fieldZ op2 ≠ 6#3 then 8 else if fieldX op2 = 1#2 then 12 else 16

/-- The default of CYCLES (R8): the table of R400. -/
def CycleTable.standard : CycleTable :=
  { base := ⟨⟨standardBase⟩, by decide +kernel⟩
    taken := ⟨⟨(List.range 256).map fun n => standardTaken (BitVec.ofNat 8 n)⟩, by simp⟩
    extended := ⟨⟨(List.range 256).map fun n => standardExtended (BitVec.ofNat 8 n)⟩, by simp⟩ }

/-- The defaults of R8. -/
def Params.default : Params :=
  { stopLength := .two, irqDispatch := false, addHlClearsN := false, idleCycles := 4, bus := .plain
    cycles := CycleTable.standard }

/-- The base cost of a primary opcode. -/
def CycleTable.baseOf (t : CycleTable) (op : Byte) : Nat := t.base[op.toNat]'op.isLt

/-- The cost of a conditional primary opcode that is taken. -/
def CycleTable.takenOf (t : CycleTable) (op : Byte) : Nat := t.taken[op.toNat]'op.isLt

/-- The cost of an extended opcode. -/
def CycleTable.extendedOf (t : CycleTable) (op2 : Byte) : Nat := t.extended[op2.toNat]'op2.isLt

end Sys2Proof
end

