-- ==== Sys2Proof/Syntax.lean ====
section
/-! DEFINITION. The instructions of the core: one constructor of `Instr` per row of spec/opcode_table.json
(spec/30_encoding.md R104, R106): the rows with an immediate in opcode order, then the other primary rows in opcode order,
then the 256 extended rows (Lean's runtime holds data only in a type's first 244 constructors). A constructor's name is
its mnemonic in lower case followed by its operands; `atHL` is the operand the spec writes `(HL)`, `atNN` is `(nn)`,
`atN` is `(n)`, `atHLinc` and `atHLdec` are `(HL+)` and `(HL-)`, `SPe` is `SP+e`. The immediates n, e and nn are the
constructor's arguments. -/

namespace Sys2Proof

/-- The 8-bit registers an instruction can name (R96); F has no code (R21). -/
inductive Reg where
  | b | c | d | e | h | l | a
deriving DecidableEq, Repr

/-- The operands `rr` of R97. -/
inductive Pair where
  | bc | de | hl | sp
deriving DecidableEq, Repr

/-- The operands `qq` of R97. -/
inductive StackPair where
  | bc | de | hl | af
deriving DecidableEq, Repr

/-- The conditions of R98. -/
inductive Cond where
  | nz | z | nc | c
deriving DecidableEq, Repr

/-- What a 3-bit operand code names (R96): a register, or for code 6 the memory byte at HL. -/
inductive Target where
  | reg (r : Reg)
  | atHL
deriving DecidableEq, Repr

/-- The second operand of an 8-bit ALU instruction: `r`, `(HL)` or `n`. -/
inductive Source where
  | reg (r : Reg)
  | atHL
  | imm (n : Byte)
deriving DecidableEq, Repr

/-- `ALU[o]` of R105, in the order of its code o. -/
inductive AluOp where
  | add | adc | sub | sbc | and | xor | or | cp
deriving DecidableEq, Repr

/-- The eight one-bit functions of R245, in the order of their code y. -/
inductive RotOp where
  | rlc | rrc | rl | rr | sla | sra | swap | srl
deriving DecidableEq, Repr

/-- The class tag of a table entry (R93, R109). -/
inductive Class where
  | load | alu | misc | rotateShift | bitOp | jump | call | ret | invalid
deriving DecidableEq, Repr

/-- One constructor per row of spec/opcode_table.json. -/
inductive Instr where
  /-- 01: `LD BC,nn` (R171). -/
  | ld_BC_nn (nn : Word)
  /-- 06: `LD B,n` (R132). -/
  | ld_B_n (n : Byte)
  /-- 08: `LD (nn),SP` (R172). -/
  | ld_atNN_SP (nn : Word)
  /-- 0E: `LD C,n` (R132). -/
  | ld_C_n (n : Byte)
  /-- 10: `STOP` (R312). -/
  | stop (n : Option Byte)
  /-- 11: `LD DE,nn` (R171). -/
  | ld_DE_nn (nn : Word)
  /-- 16: `LD D,n` (R132). -/
  | ld_D_n (n : Byte)
  /-- 18: `JR e` (R284). -/
  | jr_e (e : Byte)
  /-- 1E: `LD E,n` (R132). -/
  | ld_E_n (n : Byte)
  /-- 20: `JR NZ,e` (R285). -/
  | jr_NZ_e (e : Byte)
  /-- 21: `LD HL,nn` (R171). -/
  | ld_HL_nn (nn : Word)
  /-- 26: `LD H,n` (R132). -/
  | ld_H_n (n : Byte)
  /-- 28: `JR Z,e` (R285). -/
  | jr_Z_e (e : Byte)
  /-- 2E: `LD L,n` (R132). -/
  | ld_L_n (n : Byte)
  /-- 30: `JR NC,e` (R285). -/
  | jr_NC_e (e : Byte)
  /-- 31: `LD SP,nn` (R171). -/
  | ld_SP_nn (nn : Word)
  /-- 36: `LD (HL),n` (R135). -/
  | ld_atHL_n (n : Byte)
  /-- 38: `JR C,e` (R285). -/
  | jr_C_e (e : Byte)
  /-- 3E: `LD A,n` (R132). -/
  | ld_A_n (n : Byte)
  /-- C2: `JP NZ,nn` (R282). -/
  | jp_NZ_nn (nn : Word)
  /-- C3: `JP nn` (R281). -/
  | jp_nn (nn : Word)
  /-- C4: `CALL NZ,nn` (R287). -/
  | call_NZ_nn (nn : Word)
  /-- C6: `ADD A,n` (R194). -/
  | add_A_n (n : Byte)
  /-- CA: `JP Z,nn` (R282). -/
  | jp_Z_nn (nn : Word)
  /-- CB: `PREFIX CB` (R103). -/
  | prefix_CB (opcode2 : Byte)
  /-- CC: `CALL Z,nn` (R287). -/
  | call_Z_nn (nn : Word)
  /-- CD: `CALL nn` (R286). -/
  | call_nn (nn : Word)
  /-- CE: `ADC A,n` (R197). -/
  | adc_A_n (n : Byte)
  /-- D2: `JP NC,nn` (R282). -/
  | jp_NC_nn (nn : Word)
  /-- D4: `CALL NC,nn` (R287). -/
  | call_NC_nn (nn : Word)
  /-- D6: `SUB n` (R200). -/
  | sub_n (n : Byte)
  /-- DA: `JP C,nn` (R282). -/
  | jp_C_nn (nn : Word)
  /-- DC: `CALL C,nn` (R287). -/
  | call_C_nn (nn : Word)
  /-- DE: `SBC A,n` (R203). -/
  | sbc_A_n (n : Byte)
  /-- E0: `LDH (n),A` (R147). -/
  | ldh_atN_A (n : Byte)
  /-- E6: `AND n` (R206). -/
  | and_n (n : Byte)
  /-- E8: `ADD SP,e` (R234). -/
  | add_SP_e (e : Byte)
  /-- EA: `LD (nn),A` (R141). -/
  | ld_atNN_A (nn : Word)
  /-- EE: `XOR n` (R209). -/
  | xor_n (n : Byte)
  /-- F0: `LDH A,(n)` (R148). -/
  | ldh_A_atN (n : Byte)
  /-- F6: `OR n` (R212). -/
  | or_n (n : Byte)
  /-- F8: `LD HL,SP+e` (R177). -/
  | ld_HL_SPe (e : Byte)
  /-- FA: `LD A,(nn)` (R140). -/
  | ld_A_atNN (nn : Word)
  /-- FE: `CP n` (R215). -/
  | cp_n (n : Byte)
  /-- 00: `NOP` (R310). -/
  | nop
  /-- 02: `LD (BC),A` (R138). -/
  | ld_atBC_A
  /-- 03: `INC BC` (R232). -/
  | inc_BC
  /-- 04: `INC B` (R216). -/
  | inc_B
  /-- 05: `DEC B` (R218). -/
  | dec_B
  /-- 07: `RLCA` (R241). -/
  | rlca
  /-- 09: `ADD HL,BC` (R231). -/
  | add_HL_BC
  /-- 0A: `LD A,(BC)` (R136). -/
  | ld_A_atBC
  /-- 0B: `DEC BC` (R233). -/
  | dec_BC
  /-- 0C: `INC C` (R216). -/
  | inc_C
  /-- 0D: `DEC C` (R218). -/
  | dec_C
  /-- 0F: `RRCA` (R243). -/
  | rrca
  /-- 12: `LD (DE),A` (R139). -/
  | ld_atDE_A
  /-- 13: `INC DE` (R232). -/
  | inc_DE
  /-- 14: `INC D` (R216). -/
  | inc_D
  /-- 15: `DEC D` (R218). -/
  | dec_D
  /-- 17: `RLA` (R242). -/
  | rla
  /-- 19: `ADD HL,DE` (R231). -/
  | add_HL_DE
  /-- 1A: `LD A,(DE)` (R137). -/
  | ld_A_atDE
  /-- 1B: `DEC DE` (R233). -/
  | dec_DE
  /-- 1C: `INC E` (R216). -/
  | inc_E
  /-- 1D: `DEC E` (R218). -/
  | dec_E
  /-- 1F: `RRA` (R244). -/
  | rra
  /-- 22: `LD (HL+),A` (R142). -/
  | ld_atHLinc_A
  /-- 23: `INC HL` (R232). -/
  | inc_HL
  /-- 24: `INC H` (R216). -/
  | inc_H
  /-- 25: `DEC H` (R218). -/
  | dec_H
  /-- 27: `DAA` (R316). -/
  | daa
  /-- 29: `ADD HL,HL` (R231). -/
  | add_HL_HL
  /-- 2A: `LD A,(HL+)` (R143). -/
  | ld_A_atHLinc
  /-- 2B: `DEC HL` (R233). -/
  | dec_HL
  /-- 2C: `INC L` (R216). -/
  | inc_L
  /-- 2D: `DEC L` (R218). -/
  | dec_L
  /-- 2F: `CPL` (R317). -/
  | cpl
  /-- 32: `LD (HL-),A` (R144). -/
  | ld_atHLdec_A
  /-- 33: `INC SP` (R232). -/
  | inc_SP
  /-- 34: `INC (HL)` (R217). -/
  | inc_atHL
  /-- 35: `DEC (HL)` (R219). -/
  | dec_atHL
  /-- 37: `SCF` (R318). -/
  | scf
  /-- 39: `ADD HL,SP` (R231). -/
  | add_HL_SP
  /-- 3A: `LD A,(HL-)` (R145). -/
  | ld_A_atHLdec
  /-- 3B: `DEC SP` (R233). -/
  | dec_SP
  /-- 3C: `INC A` (R216). -/
  | inc_A
  /-- 3D: `DEC A` (R218). -/
  | dec_A
  /-- 3F: `CCF` (R319). -/
  | ccf
  /-- 40: `LD B,B` (R131). -/
  | ld_B_B
  /-- 41: `LD B,C` (R131). -/
  | ld_B_C
  /-- 42: `LD B,D` (R131). -/
  | ld_B_D
  /-- 43: `LD B,E` (R131). -/
  | ld_B_E
  /-- 44: `LD B,H` (R131). -/
  | ld_B_H
  /-- 45: `LD B,L` (R131). -/
  | ld_B_L
  /-- 46: `LD B,(HL)` (R133). -/
  | ld_B_atHL
  /-- 47: `LD B,A` (R131). -/
  | ld_B_A
  /-- 48: `LD C,B` (R131). -/
  | ld_C_B
  /-- 49: `LD C,C` (R131). -/
  | ld_C_C
  /-- 4A: `LD C,D` (R131). -/
  | ld_C_D
  /-- 4B: `LD C,E` (R131). -/
  | ld_C_E
  /-- 4C: `LD C,H` (R131). -/
  | ld_C_H
  /-- 4D: `LD C,L` (R131). -/
  | ld_C_L
  /-- 4E: `LD C,(HL)` (R133). -/
  | ld_C_atHL
  /-- 4F: `LD C,A` (R131). -/
  | ld_C_A
  /-- 50: `LD D,B` (R131). -/
  | ld_D_B
  /-- 51: `LD D,C` (R131). -/
  | ld_D_C
  /-- 52: `LD D,D` (R131). -/
  | ld_D_D
  /-- 53: `LD D,E` (R131). -/
  | ld_D_E
  /-- 54: `LD D,H` (R131). -/
  | ld_D_H
  /-- 55: `LD D,L` (R131). -/
  | ld_D_L
  /-- 56: `LD D,(HL)` (R133). -/
  | ld_D_atHL
  /-- 57: `LD D,A` (R131). -/
  | ld_D_A
  /-- 58: `LD E,B` (R131). -/
  | ld_E_B
  /-- 59: `LD E,C` (R131). -/
  | ld_E_C
  /-- 5A: `LD E,D` (R131). -/
  | ld_E_D
  /-- 5B: `LD E,E` (R131). -/
  | ld_E_E
  /-- 5C: `LD E,H` (R131). -/
  | ld_E_H
  /-- 5D: `LD E,L` (R131). -/
  | ld_E_L
  /-- 5E: `LD E,(HL)` (R133). -/
  | ld_E_atHL
  /-- 5F: `LD E,A` (R131). -/
  | ld_E_A
  /-- 60: `LD H,B` (R131). -/
  | ld_H_B
  /-- 61: `LD H,C` (R131). -/
  | ld_H_C
  /-- 62: `LD H,D` (R131). -/
  | ld_H_D
  /-- 63: `LD H,E` (R131). -/
  | ld_H_E
  /-- 64: `LD H,H` (R131). -/
  | ld_H_H
  /-- 65: `LD H,L` (R131). -/
  | ld_H_L
  /-- 66: `LD H,(HL)` (R133). -/
  | ld_H_atHL
  /-- 67: `LD H,A` (R131). -/
  | ld_H_A
  /-- 68: `LD L,B` (R131). -/
  | ld_L_B
  /-- 69: `LD L,C` (R131). -/
  | ld_L_C
  /-- 6A: `LD L,D` (R131). -/
  | ld_L_D
  /-- 6B: `LD L,E` (R131). -/
  | ld_L_E
  /-- 6C: `LD L,H` (R131). -/
  | ld_L_H
  /-- 6D: `LD L,L` (R131). -/
  | ld_L_L
  /-- 6E: `LD L,(HL)` (R133). -/
  | ld_L_atHL
  /-- 6F: `LD L,A` (R131). -/
  | ld_L_A
  /-- 70: `LD (HL),B` (R134). -/
  | ld_atHL_B
  /-- 71: `LD (HL),C` (R134). -/
  | ld_atHL_C
  /-- 72: `LD (HL),D` (R134). -/
  | ld_atHL_D
  /-- 73: `LD (HL),E` (R134). -/
  | ld_atHL_E
  /-- 74: `LD (HL),H` (R134). -/
  | ld_atHL_H
  /-- 75: `LD (HL),L` (R134). -/
  | ld_atHL_L
  /-- 76: `HALT` (R311). -/
  | halt
  /-- 77: `LD (HL),A` (R134). -/
  | ld_atHL_A
  /-- 78: `LD A,B` (R131). -/
  | ld_A_B
  /-- 79: `LD A,C` (R131). -/
  | ld_A_C
  /-- 7A: `LD A,D` (R131). -/
  | ld_A_D
  /-- 7B: `LD A,E` (R131). -/
  | ld_A_E
  /-- 7C: `LD A,H` (R131). -/
  | ld_A_H
  /-- 7D: `LD A,L` (R131). -/
  | ld_A_L
  /-- 7E: `LD A,(HL)` (R133). -/
  | ld_A_atHL
  /-- 7F: `LD A,A` (R131). -/
  | ld_A_A
  /-- 80: `ADD A,B` (R192). -/
  | add_A_B
  /-- 81: `ADD A,C` (R192). -/
  | add_A_C
  /-- 82: `ADD A,D` (R192). -/
  | add_A_D
  /-- 83: `ADD A,E` (R192). -/
  | add_A_E
  /-- 84: `ADD A,H` (R192). -/
  | add_A_H
  /-- 85: `ADD A,L` (R192). -/
  | add_A_L
  /-- 86: `ADD A,(HL)` (R193). -/
  | add_A_atHL
  /-- 87: `ADD A,A` (R192). -/
  | add_A_A
  /-- 88: `ADC A,B` (R195). -/
  | adc_A_B
  /-- 89: `ADC A,C` (R195). -/
  | adc_A_C
  /-- 8A: `ADC A,D` (R195). -/
  | adc_A_D
  /-- 8B: `ADC A,E` (R195). -/
  | adc_A_E
  /-- 8C: `ADC A,H` (R195). -/
  | adc_A_H
  /-- 8D: `ADC A,L` (R195). -/
  | adc_A_L
  /-- 8E: `ADC A,(HL)` (R196). -/
  | adc_A_atHL
  /-- 8F: `ADC A,A` (R195). -/
  | adc_A_A
  /-- 90: `SUB B` (R198). -/
  | sub_B
  /-- 91: `SUB C` (R198). -/
  | sub_C
  /-- 92: `SUB D` (R198). -/
  | sub_D
  /-- 93: `SUB E` (R198). -/
  | sub_E
  /-- 94: `SUB H` (R198). -/
  | sub_H
  /-- 95: `SUB L` (R198). -/
  | sub_L
  /-- 96: `SUB (HL)` (R199). -/
  | sub_atHL
  /-- 97: `SUB A` (R198). -/
  | sub_A
  /-- 98: `SBC A,B` (R201). -/
  | sbc_A_B
  /-- 99: `SBC A,C` (R201). -/
  | sbc_A_C
  /-- 9A: `SBC A,D` (R201). -/
  | sbc_A_D
  /-- 9B: `SBC A,E` (R201). -/
  | sbc_A_E
  /-- 9C: `SBC A,H` (R201). -/
  | sbc_A_H
  /-- 9D: `SBC A,L` (R201). -/
  | sbc_A_L
  /-- 9E: `SBC A,(HL)` (R202). -/
  | sbc_A_atHL
  /-- 9F: `SBC A,A` (R201). -/
  | sbc_A_A
  /-- A0: `AND B` (R204). -/
  | and_B
  /-- A1: `AND C` (R204). -/
  | and_C
  /-- A2: `AND D` (R204). -/
  | and_D
  /-- A3: `AND E` (R204). -/
  | and_E
  /-- A4: `AND H` (R204). -/
  | and_H
  /-- A5: `AND L` (R204). -/
  | and_L
  /-- A6: `AND (HL)` (R205). -/
  | and_atHL
  /-- A7: `AND A` (R204). -/
  | and_A
  /-- A8: `XOR B` (R207). -/
  | xor_B
  /-- A9: `XOR C` (R207). -/
  | xor_C
  /-- AA: `XOR D` (R207). -/
  | xor_D
  /-- AB: `XOR E` (R207). -/
  | xor_E
  /-- AC: `XOR H` (R207). -/
  | xor_H
  /-- AD: `XOR L` (R207). -/
  | xor_L
  /-- AE: `XOR (HL)` (R208). -/
  | xor_atHL
  /-- AF: `XOR A` (R207). -/
  | xor_A
  /-- B0: `OR B` (R210). -/
  | or_B
  /-- B1: `OR C` (R210). -/
  | or_C
  /-- B2: `OR D` (R210). -/
  | or_D
  /-- B3: `OR E` (R210). -/
  | or_E
  /-- B4: `OR H` (R210). -/
  | or_H
  /-- B5: `OR L` (R210). -/
  | or_L
  /-- B6: `OR (HL)` (R211). -/
  | or_atHL
  /-- B7: `OR A` (R210). -/
  | or_A
  /-- B8: `CP B` (R213). -/
  | cp_B
  /-- B9: `CP C` (R213). -/
  | cp_C
  /-- BA: `CP D` (R213). -/
  | cp_D
  /-- BB: `CP E` (R213). -/
  | cp_E
  /-- BC: `CP H` (R213). -/
  | cp_H
  /-- BD: `CP L` (R213). -/
  | cp_L
  /-- BE: `CP (HL)` (R214). -/
  | cp_atHL
  /-- BF: `CP A` (R213). -/
  | cp_A
  /-- C0: `RET NZ` (R289). -/
  | ret_NZ
  /-- C1: `POP BC` (R181). -/
  | pop_BC
  /-- C5: `PUSH BC` (R179). -/
  | push_BC
  /-- C7: `RST 00` (R300). -/
  | rst_00
  /-- C8: `RET Z` (R289). -/
  | ret_Z
  /-- C9: `RET` (R288). -/
  | ret
  /-- CF: `RST 08` (R300). -/
  | rst_08
  /-- D0: `RET NC` (R289). -/
  | ret_NC
  /-- D1: `POP DE` (R181). -/
  | pop_DE
  /-- D3: `INVALID` (R330). -/
  | invalid_D3
  /-- D5: `PUSH DE` (R179). -/
  | push_DE
  /-- D7: `RST 10` (R300). -/
  | rst_10
  /-- D8: `RET C` (R289). -/
  | ret_C
  /-- D9: `RETI` (R290). -/
  | reti
  /-- DB: `INVALID` (R330). -/
  | invalid_DB
  /-- DD: `INVALID` (R330). -/
  | invalid_DD
  /-- DF: `RST 18` (R300). -/
  | rst_18
  /-- E1: `POP HL` (R181). -/
  | pop_HL
  /-- E2: `LD (C),A` (R149). -/
  | ld_atC_A
  /-- E3: `INVALID` (R330). -/
  | invalid_E3
  /-- E4: `INVALID` (R330). -/
  | invalid_E4
  /-- E5: `PUSH HL` (R179). -/
  | push_HL
  /-- E7: `RST 20` (R300). -/
  | rst_20
  /-- E9: `JP HL` (R283). -/
  | jp_HL
  /-- EB: `INVALID` (R330). -/
  | invalid_EB
  /-- EC: `INVALID` (R330). -/
  | invalid_EC
  /-- ED: `INVALID` (R330). -/
  | invalid_ED
  /-- EF: `RST 28` (R300). -/
  | rst_28
  /-- F1: `POP AF` (R180). -/
  | pop_AF
  /-- F2: `LD A,(C)` (R150). -/
  | ld_A_atC
  /-- F3: `DI` (R313). -/
  | di
  /-- F4: `INVALID` (R330). -/
  | invalid_F4
  /-- F5: `PUSH AF` (R179). -/
  | push_AF
  /-- F7: `RST 30` (R300). -/
  | rst_30
  /-- F9: `LD SP,HL` (R173). -/
  | ld_SP_HL
  /-- FB: `EI` (R314). -/
  | ei
  /-- FC: `INVALID` (R330). -/
  | invalid_FC
  /-- FD: `INVALID` (R330). -/
  | invalid_FD
  /-- FF: `RST 38` (R300). -/
  | rst_38
  /-- CB 00: `RLC B` (R246). -/
  | rlc_B
  /-- CB 01: `RLC C` (R246). -/
  | rlc_C
  /-- CB 02: `RLC D` (R246). -/
  | rlc_D
  /-- CB 03: `RLC E` (R246). -/
  | rlc_E
  /-- CB 04: `RLC H` (R246). -/
  | rlc_H
  /-- CB 05: `RLC L` (R246). -/
  | rlc_L
  /-- CB 06: `RLC (HL)` (R247). -/
  | rlc_atHL
  /-- CB 07: `RLC A` (R246). -/
  | rlc_A
  /-- CB 08: `RRC B` (R248). -/
  | rrc_B
  /-- CB 09: `RRC C` (R248). -/
  | rrc_C
  /-- CB 0A: `RRC D` (R248). -/
  | rrc_D
  /-- CB 0B: `RRC E` (R248). -/
  | rrc_E
  /-- CB 0C: `RRC H` (R248). -/
  | rrc_H
  /-- CB 0D: `RRC L` (R248). -/
  | rrc_L
  /-- CB 0E: `RRC (HL)` (R249). -/
  | rrc_atHL
  /-- CB 0F: `RRC A` (R248). -/
  | rrc_A
  /-- CB 10: `RL B` (R250). -/
  | rl_B
  /-- CB 11: `RL C` (R250). -/
  | rl_C
  /-- CB 12: `RL D` (R250). -/
  | rl_D
  /-- CB 13: `RL E` (R250). -/
  | rl_E
  /-- CB 14: `RL H` (R250). -/
  | rl_H
  /-- CB 15: `RL L` (R250). -/
  | rl_L
  /-- CB 16: `RL (HL)` (R251). -/
  | rl_atHL
  /-- CB 17: `RL A` (R250). -/
  | rl_A
  /-- CB 18: `RR B` (R252). -/
  | rr_B
  /-- CB 19: `RR C` (R252). -/
  | rr_C
  /-- CB 1A: `RR D` (R252). -/
  | rr_D
  /-- CB 1B: `RR E` (R252). -/
  | rr_E
  /-- CB 1C: `RR H` (R252). -/
  | rr_H
  /-- CB 1D: `RR L` (R252). -/
  | rr_L
  /-- CB 1E: `RR (HL)` (R253). -/
  | rr_atHL
  /-- CB 1F: `RR A` (R252). -/
  | rr_A
  /-- CB 20: `SLA B` (R254). -/
  | sla_B
  /-- CB 21: `SLA C` (R254). -/
  | sla_C
  /-- CB 22: `SLA D` (R254). -/
  | sla_D
  /-- CB 23: `SLA E` (R254). -/
  | sla_E
  /-- CB 24: `SLA H` (R254). -/
  | sla_H
  /-- CB 25: `SLA L` (R254). -/
  | sla_L
  /-- CB 26: `SLA (HL)` (R255). -/
  | sla_atHL
  /-- CB 27: `SLA A` (R254). -/
  | sla_A
  /-- CB 28: `SRA B` (R256). -/
  | sra_B
  /-- CB 29: `SRA C` (R256). -/
  | sra_C
  /-- CB 2A: `SRA D` (R256). -/
  | sra_D
  /-- CB 2B: `SRA E` (R256). -/
  | sra_E
  /-- CB 2C: `SRA H` (R256). -/
  | sra_H
  /-- CB 2D: `SRA L` (R256). -/
  | sra_L
  /-- CB 2E: `SRA (HL)` (R257). -/
  | sra_atHL
  /-- CB 2F: `SRA A` (R256). -/
  | sra_A
  /-- CB 30: `SWAP B` (R260). -/
  | swap_B
  /-- CB 31: `SWAP C` (R260). -/
  | swap_C
  /-- CB 32: `SWAP D` (R260). -/
  | swap_D
  /-- CB 33: `SWAP E` (R260). -/
  | swap_E
  /-- CB 34: `SWAP H` (R260). -/
  | swap_H
  /-- CB 35: `SWAP L` (R260). -/
  | swap_L
  /-- CB 36: `SWAP (HL)` (R261). -/
  | swap_atHL
  /-- CB 37: `SWAP A` (R260). -/
  | swap_A
  /-- CB 38: `SRL B` (R258). -/
  | srl_B
  /-- CB 39: `SRL C` (R258). -/
  | srl_C
  /-- CB 3A: `SRL D` (R258). -/
  | srl_D
  /-- CB 3B: `SRL E` (R258). -/
  | srl_E
  /-- CB 3C: `SRL H` (R258). -/
  | srl_H
  /-- CB 3D: `SRL L` (R258). -/
  | srl_L
  /-- CB 3E: `SRL (HL)` (R259). -/
  | srl_atHL
  /-- CB 3F: `SRL A` (R258). -/
  | srl_A
  /-- CB 40: `BIT 0,B` (R262). -/
  | bit_0_B
  /-- CB 41: `BIT 0,C` (R262). -/
  | bit_0_C
  /-- CB 42: `BIT 0,D` (R262). -/
  | bit_0_D
  /-- CB 43: `BIT 0,E` (R262). -/
  | bit_0_E
  /-- CB 44: `BIT 0,H` (R262). -/
  | bit_0_H
  /-- CB 45: `BIT 0,L` (R262). -/
  | bit_0_L
  /-- CB 46: `BIT 0,(HL)` (R263). -/
  | bit_0_atHL
  /-- CB 47: `BIT 0,A` (R262). -/
  | bit_0_A
  /-- CB 48: `BIT 1,B` (R262). -/
  | bit_1_B
  /-- CB 49: `BIT 1,C` (R262). -/
  | bit_1_C
  /-- CB 4A: `BIT 1,D` (R262). -/
  | bit_1_D
  /-- CB 4B: `BIT 1,E` (R262). -/
  | bit_1_E
  /-- CB 4C: `BIT 1,H` (R262). -/
  | bit_1_H
  /-- CB 4D: `BIT 1,L` (R262). -/
  | bit_1_L
  /-- CB 4E: `BIT 1,(HL)` (R263). -/
  | bit_1_atHL
  /-- CB 4F: `BIT 1,A` (R262). -/
  | bit_1_A
  /-- CB 50: `BIT 2,B` (R262). -/
  | bit_2_B
  /-- CB 51: `BIT 2,C` (R262). -/
  | bit_2_C
  /-- CB 52: `BIT 2,D` (R262). -/
  | bit_2_D
  /-- CB 53: `BIT 2,E` (R262). -/
  | bit_2_E
  /-- CB 54: `BIT 2,H` (R262). -/
  | bit_2_H
  /-- CB 55: `BIT 2,L` (R262). -/
  | bit_2_L
  /-- CB 56: `BIT 2,(HL)` (R263). -/
  | bit_2_atHL
  /-- CB 57: `BIT 2,A` (R262). -/
  | bit_2_A
  /-- CB 58: `BIT 3,B` (R262). -/
  | bit_3_B
  /-- CB 59: `BIT 3,C` (R262). -/
  | bit_3_C
  /-- CB 5A: `BIT 3,D` (R262). -/
  | bit_3_D
  /-- CB 5B: `BIT 3,E` (R262). -/
  | bit_3_E
  /-- CB 5C: `BIT 3,H` (R262). -/
  | bit_3_H
  /-- CB 5D: `BIT 3,L` (R262). -/
  | bit_3_L
  /-- CB 5E: `BIT 3,(HL)` (R263). -/
  | bit_3_atHL
  /-- CB 5F: `BIT 3,A` (R262). -/
  | bit_3_A
  /-- CB 60: `BIT 4,B` (R262). -/
  | bit_4_B
  /-- CB 61: `BIT 4,C` (R262). -/
  | bit_4_C
  /-- CB 62: `BIT 4,D` (R262). -/
  | bit_4_D
  /-- CB 63: `BIT 4,E` (R262). -/
  | bit_4_E
  /-- CB 64: `BIT 4,H` (R262). -/
  | bit_4_H
  /-- CB 65: `BIT 4,L` (R262). -/
  | bit_4_L
  /-- CB 66: `BIT 4,(HL)` (R263). -/
  | bit_4_atHL
  /-- CB 67: `BIT 4,A` (R262). -/
  | bit_4_A
  /-- CB 68: `BIT 5,B` (R262). -/
  | bit_5_B
  /-- CB 69: `BIT 5,C` (R262). -/
  | bit_5_C
  /-- CB 6A: `BIT 5,D` (R262). -/
  | bit_5_D
  /-- CB 6B: `BIT 5,E` (R262). -/
  | bit_5_E
  /-- CB 6C: `BIT 5,H` (R262). -/
  | bit_5_H
  /-- CB 6D: `BIT 5,L` (R262). -/
  | bit_5_L
  /-- CB 6E: `BIT 5,(HL)` (R263). -/
  | bit_5_atHL
  /-- CB 6F: `BIT 5,A` (R262). -/
  | bit_5_A
  /-- CB 70: `BIT 6,B` (R262). -/
  | bit_6_B
  /-- CB 71: `BIT 6,C` (R262). -/
  | bit_6_C
  /-- CB 72: `BIT 6,D` (R262). -/
  | bit_6_D
  /-- CB 73: `BIT 6,E` (R262). -/
  | bit_6_E
  /-- CB 74: `BIT 6,H` (R262). -/
  | bit_6_H
  /-- CB 75: `BIT 6,L` (R262). -/
  | bit_6_L
  /-- CB 76: `BIT 6,(HL)` (R263). -/
  | bit_6_atHL
  /-- CB 77: `BIT 6,A` (R262). -/
  | bit_6_A
  /-- CB 78: `BIT 7,B` (R262). -/
  | bit_7_B
  /-- CB 79: `BIT 7,C` (R262). -/
  | bit_7_C
  /-- CB 7A: `BIT 7,D` (R262). -/
  | bit_7_D
  /-- CB 7B: `BIT 7,E` (R262). -/
  | bit_7_E
  /-- CB 7C: `BIT 7,H` (R262). -/
  | bit_7_H
  /-- CB 7D: `BIT 7,L` (R262). -/
  | bit_7_L
  /-- CB 7E: `BIT 7,(HL)` (R263). -/
  | bit_7_atHL
  /-- CB 7F: `BIT 7,A` (R262). -/
  | bit_7_A
  /-- CB 80: `RES 0,B` (R264). -/
  | res_0_B
  /-- CB 81: `RES 0,C` (R264). -/
  | res_0_C
  /-- CB 82: `RES 0,D` (R264). -/
  | res_0_D
  /-- CB 83: `RES 0,E` (R264). -/
  | res_0_E
  /-- CB 84: `RES 0,H` (R264). -/
  | res_0_H
  /-- CB 85: `RES 0,L` (R264). -/
  | res_0_L
  /-- CB 86: `RES 0,(HL)` (R265). -/
  | res_0_atHL
  /-- CB 87: `RES 0,A` (R264). -/
  | res_0_A
  /-- CB 88: `RES 1,B` (R264). -/
  | res_1_B
  /-- CB 89: `RES 1,C` (R264). -/
  | res_1_C
  /-- CB 8A: `RES 1,D` (R264). -/
  | res_1_D
  /-- CB 8B: `RES 1,E` (R264). -/
  | res_1_E
  /-- CB 8C: `RES 1,H` (R264). -/
  | res_1_H
  /-- CB 8D: `RES 1,L` (R264). -/
  | res_1_L
  /-- CB 8E: `RES 1,(HL)` (R265). -/
  | res_1_atHL
  /-- CB 8F: `RES 1,A` (R264). -/
  | res_1_A
  /-- CB 90: `RES 2,B` (R264). -/
  | res_2_B
  /-- CB 91: `RES 2,C` (R264). -/
  | res_2_C
  /-- CB 92: `RES 2,D` (R264). -/
  | res_2_D
  /-- CB 93: `RES 2,E` (R264). -/
  | res_2_E
  /-- CB 94: `RES 2,H` (R264). -/
  | res_2_H
  /-- CB 95: `RES 2,L` (R264). -/
  | res_2_L
  /-- CB 96: `RES 2,(HL)` (R265). -/
  | res_2_atHL
  /-- CB 97: `RES 2,A` (R264). -/
  | res_2_A
  /-- CB 98: `RES 3,B` (R264). -/
  | res_3_B
  /-- CB 99: `RES 3,C` (R264). -/
  | res_3_C
  /-- CB 9A: `RES 3,D` (R264). -/
  | res_3_D
  /-- CB 9B: `RES 3,E` (R264). -/
  | res_3_E
  /-- CB 9C: `RES 3,H` (R264). -/
  | res_3_H
  /-- CB 9D: `RES 3,L` (R264). -/
  | res_3_L
  /-- CB 9E: `RES 3,(HL)` (R265). -/
  | res_3_atHL
  /-- CB 9F: `RES 3,A` (R264). -/
  | res_3_A
  /-- CB A0: `RES 4,B` (R264). -/
  | res_4_B
  /-- CB A1: `RES 4,C` (R264). -/
  | res_4_C
  /-- CB A2: `RES 4,D` (R264). -/
  | res_4_D
  /-- CB A3: `RES 4,E` (R264). -/
  | res_4_E
  /-- CB A4: `RES 4,H` (R264). -/
  | res_4_H
  /-- CB A5: `RES 4,L` (R264). -/
  | res_4_L
  /-- CB A6: `RES 4,(HL)` (R265). -/
  | res_4_atHL
  /-- CB A7: `RES 4,A` (R264). -/
  | res_4_A
  /-- CB A8: `RES 5,B` (R264). -/
  | res_5_B
  /-- CB A9: `RES 5,C` (R264). -/
  | res_5_C
  /-- CB AA: `RES 5,D` (R264). -/
  | res_5_D
  /-- CB AB: `RES 5,E` (R264). -/
  | res_5_E
  /-- CB AC: `RES 5,H` (R264). -/
  | res_5_H
  /-- CB AD: `RES 5,L` (R264). -/
  | res_5_L
  /-- CB AE: `RES 5,(HL)` (R265). -/
  | res_5_atHL
  /-- CB AF: `RES 5,A` (R264). -/
  | res_5_A
  /-- CB B0: `RES 6,B` (R264). -/
  | res_6_B
  /-- CB B1: `RES 6,C` (R264). -/
  | res_6_C
  /-- CB B2: `RES 6,D` (R264). -/
  | res_6_D
  /-- CB B3: `RES 6,E` (R264). -/
  | res_6_E
  /-- CB B4: `RES 6,H` (R264). -/
  | res_6_H
  /-- CB B5: `RES 6,L` (R264). -/
  | res_6_L
  /-- CB B6: `RES 6,(HL)` (R265). -/
  | res_6_atHL
  /-- CB B7: `RES 6,A` (R264). -/
  | res_6_A
  /-- CB B8: `RES 7,B` (R264). -/
  | res_7_B
  /-- CB B9: `RES 7,C` (R264). -/
  | res_7_C
  /-- CB BA: `RES 7,D` (R264). -/
  | res_7_D
  /-- CB BB: `RES 7,E` (R264). -/
  | res_7_E
  /-- CB BC: `RES 7,H` (R264). -/
  | res_7_H
  /-- CB BD: `RES 7,L` (R264). -/
  | res_7_L
  /-- CB BE: `RES 7,(HL)` (R265). -/
  | res_7_atHL
  /-- CB BF: `RES 7,A` (R264). -/
  | res_7_A
  /-- CB C0: `SET 0,B` (R266). -/
  | set_0_B
  /-- CB C1: `SET 0,C` (R266). -/
  | set_0_C
  /-- CB C2: `SET 0,D` (R266). -/
  | set_0_D
  /-- CB C3: `SET 0,E` (R266). -/
  | set_0_E
  /-- CB C4: `SET 0,H` (R266). -/
  | set_0_H
  /-- CB C5: `SET 0,L` (R266). -/
  | set_0_L
  /-- CB C6: `SET 0,(HL)` (R267). -/
  | set_0_atHL
  /-- CB C7: `SET 0,A` (R266). -/
  | set_0_A
  /-- CB C8: `SET 1,B` (R266). -/
  | set_1_B
  /-- CB C9: `SET 1,C` (R266). -/
  | set_1_C
  /-- CB CA: `SET 1,D` (R266). -/
  | set_1_D
  /-- CB CB: `SET 1,E` (R266). -/
  | set_1_E
  /-- CB CC: `SET 1,H` (R266). -/
  | set_1_H
  /-- CB CD: `SET 1,L` (R266). -/
  | set_1_L
  /-- CB CE: `SET 1,(HL)` (R267). -/
  | set_1_atHL
  /-- CB CF: `SET 1,A` (R266). -/
  | set_1_A
  /-- CB D0: `SET 2,B` (R266). -/
  | set_2_B
  /-- CB D1: `SET 2,C` (R266). -/
  | set_2_C
  /-- CB D2: `SET 2,D` (R266). -/
  | set_2_D
  /-- CB D3: `SET 2,E` (R266). -/
  | set_2_E
  /-- CB D4: `SET 2,H` (R266). -/
  | set_2_H
  /-- CB D5: `SET 2,L` (R266). -/
  | set_2_L
  /-- CB D6: `SET 2,(HL)` (R267). -/
  | set_2_atHL
  /-- CB D7: `SET 2,A` (R266). -/
  | set_2_A
  /-- CB D8: `SET 3,B` (R266). -/
  | set_3_B
  /-- CB D9: `SET 3,C` (R266). -/
  | set_3_C
  /-- CB DA: `SET 3,D` (R266). -/
  | set_3_D
  /-- CB DB: `SET 3,E` (R266). -/
  | set_3_E
  /-- CB DC: `SET 3,H` (R266). -/
  | set_3_H
  /-- CB DD: `SET 3,L` (R266). -/
  | set_3_L
  /-- CB DE: `SET 3,(HL)` (R267). -/
  | set_3_atHL
  /-- CB DF: `SET 3,A` (R266). -/
  | set_3_A
  /-- CB E0: `SET 4,B` (R266). -/
  | set_4_B
  /-- CB E1: `SET 4,C` (R266). -/
  | set_4_C
  /-- CB E2: `SET 4,D` (R266). -/
  | set_4_D
  /-- CB E3: `SET 4,E` (R266). -/
  | set_4_E
  /-- CB E4: `SET 4,H` (R266). -/
  | set_4_H
  /-- CB E5: `SET 4,L` (R266). -/
  | set_4_L
  /-- CB E6: `SET 4,(HL)` (R267). -/
  | set_4_atHL
  /-- CB E7: `SET 4,A` (R266). -/
  | set_4_A
  /-- CB E8: `SET 5,B` (R266). -/
  | set_5_B
  /-- CB E9: `SET 5,C` (R266). -/
  | set_5_C
  /-- CB EA: `SET 5,D` (R266). -/
  | set_5_D
  /-- CB EB: `SET 5,E` (R266). -/
  | set_5_E
  /-- CB EC: `SET 5,H` (R266). -/
  | set_5_H
  /-- CB ED: `SET 5,L` (R266). -/
  | set_5_L
  /-- CB EE: `SET 5,(HL)` (R267). -/
  | set_5_atHL
  /-- CB EF: `SET 5,A` (R266). -/
  | set_5_A
  /-- CB F0: `SET 6,B` (R266). -/
  | set_6_B
  /-- CB F1: `SET 6,C` (R266). -/
  | set_6_C
  /-- CB F2: `SET 6,D` (R266). -/
  | set_6_D
  /-- CB F3: `SET 6,E` (R266). -/
  | set_6_E
  /-- CB F4: `SET 6,H` (R266). -/
  | set_6_H
  /-- CB F5: `SET 6,L` (R266). -/
  | set_6_L
  /-- CB F6: `SET 6,(HL)` (R267). -/
  | set_6_atHL
  /-- CB F7: `SET 6,A` (R266). -/
  | set_6_A
  /-- CB F8: `SET 7,B` (R266). -/
  | set_7_B
  /-- CB F9: `SET 7,C` (R266). -/
  | set_7_C
  /-- CB FA: `SET 7,D` (R266). -/
  | set_7_D
  /-- CB FB: `SET 7,E` (R266). -/
  | set_7_E
  /-- CB FC: `SET 7,H` (R266). -/
  | set_7_H
  /-- CB FD: `SET 7,L` (R266). -/
  | set_7_L
  /-- CB FE: `SET 7,(HL)` (R267). -/
  | set_7_atHL
  /-- CB FF: `SET 7,A` (R266). -/
  | set_7_A
deriving DecidableEq, Repr

end Sys2Proof
end

