-- ==== Sys2Proof/WellFormed.lean ====
section
/-! DEFINITION. Which terms of `Instr` are instructions a machine with parameters `p` can decode. -/

namespace Sys2Proof

/-- Every immediate of every constructor admits all values of its type, so two checks remain. `PREFIX CB` is a
pseudo-descriptor that is "never reported as an executed instruction" (R103). STOP carries its ignored second byte
exactly when `STOP_LENGTH` is 2 (R111). -/
def Instr.wellFormed (p : Params) : Instr → Bool
  | .prefix_CB _ => false
  | .stop n => n.isSome == (p.stopLength == .two)
  | _ => true

end Sys2Proof
end

