-- ==== Sys2Proof/Decode.lean ====
section
/-! DEFINITION. The decoder: the primary table as the 16 by 16 matrix of spec/30_encoding.md R104, the extended table of
R106, the lengths of R110, the class tags of R109, the costs as the parameter CYCLES gives them (R93); `decode` over a
list of bytes; and the encoder, written from the encoding column of the same tables. The machine's own fetch
(Machine/Fetch.lean) uses `shapeOf`, `operandBytes` and `assemble`, so a byte string is read one way only. -/

namespace Sys2Proof

/-- The format of a primary table entry (R91) with what it makes of the bytes that follow the opcode. -/
inductive Shape where
  /-- OP: no operand byte. -/
  | op (i : Instr)
  /-- OP_N8: one unsigned byte. -/
  | n8 (make : Byte → Instr)
  /-- OP_E8: one byte in two's complement. -/
  | e8 (make : Byte → Instr)
  /-- OP_N16: two bytes, low byte first. -/
  | n16 (make : Word → Instr)
  /-- 0x10, whose length is `STOP_LENGTH` (R111). -/
  | stop
  /-- 0xCB, the prefix: the next byte is looked up in the extended table (R103). -/
  | cb

/-- The cell of a 16 by 16 table that a byte names: row the high nibble, column the low nibble (R104). -/
def cell {α : Type} (table : List (List α)) (b : Byte) (out : α) : α :=
  (table.getD (b.toNat / 16) []).getD (b.toNat % 16) out

/-- Row 0x of `primaryTable`. -/
def primaryTable0 : List Shape :=
  [.op .nop, .n16 .ld_BC_nn, .op .ld_atBC_A, .op .inc_BC, .op .inc_B, .op .dec_B, .n8 .ld_B_n, .op .rlca,
   .n16 .ld_atNN_SP, .op .add_HL_BC, .op .ld_A_atBC, .op .dec_BC, .op .inc_C, .op .dec_C, .n8 .ld_C_n, .op .rrca]

/-- Row 1x of `primaryTable`. -/
def primaryTable1 : List Shape :=
  [.stop, .n16 .ld_DE_nn, .op .ld_atDE_A, .op .inc_DE, .op .inc_D, .op .dec_D, .n8 .ld_D_n, .op .rla,
   .e8 .jr_e, .op .add_HL_DE, .op .ld_A_atDE, .op .dec_DE, .op .inc_E, .op .dec_E, .n8 .ld_E_n, .op .rra]

/-- Row 2x of `primaryTable`. -/
def primaryTable2 : List Shape :=
  [.e8 .jr_NZ_e, .n16 .ld_HL_nn, .op .ld_atHLinc_A, .op .inc_HL, .op .inc_H, .op .dec_H, .n8 .ld_H_n, .op .daa,
   .e8 .jr_Z_e, .op .add_HL_HL, .op .ld_A_atHLinc, .op .dec_HL, .op .inc_L, .op .dec_L, .n8 .ld_L_n, .op .cpl]

/-- Row 3x of `primaryTable`. -/
def primaryTable3 : List Shape :=
  [.e8 .jr_NC_e, .n16 .ld_SP_nn, .op .ld_atHLdec_A, .op .inc_SP, .op .inc_atHL, .op .dec_atHL, .n8 .ld_atHL_n, .op .scf,
   .e8 .jr_C_e, .op .add_HL_SP, .op .ld_A_atHLdec, .op .dec_SP, .op .inc_A, .op .dec_A, .n8 .ld_A_n, .op .ccf]

/-- Row 4x of `primaryTable`. -/
def primaryTable4 : List Shape :=
  [.op .ld_B_B, .op .ld_B_C, .op .ld_B_D, .op .ld_B_E, .op .ld_B_H, .op .ld_B_L, .op .ld_B_atHL, .op .ld_B_A,
   .op .ld_C_B, .op .ld_C_C, .op .ld_C_D, .op .ld_C_E, .op .ld_C_H, .op .ld_C_L, .op .ld_C_atHL, .op .ld_C_A]

/-- Row 5x of `primaryTable`. -/
def primaryTable5 : List Shape :=
  [.op .ld_D_B, .op .ld_D_C, .op .ld_D_D, .op .ld_D_E, .op .ld_D_H, .op .ld_D_L, .op .ld_D_atHL, .op .ld_D_A,
   .op .ld_E_B, .op .ld_E_C, .op .ld_E_D, .op .ld_E_E, .op .ld_E_H, .op .ld_E_L, .op .ld_E_atHL, .op .ld_E_A]

/-- Row 6x of `primaryTable`. -/
def primaryTable6 : List Shape :=
  [.op .ld_H_B, .op .ld_H_C, .op .ld_H_D, .op .ld_H_E, .op .ld_H_H, .op .ld_H_L, .op .ld_H_atHL, .op .ld_H_A,
   .op .ld_L_B, .op .ld_L_C, .op .ld_L_D, .op .ld_L_E, .op .ld_L_H, .op .ld_L_L, .op .ld_L_atHL, .op .ld_L_A]

/-- Row 7x of `primaryTable`. -/
def primaryTable7 : List Shape :=
  [.op .ld_atHL_B, .op .ld_atHL_C, .op .ld_atHL_D, .op .ld_atHL_E, .op .ld_atHL_H, .op .ld_atHL_L, .op .halt, .op .ld_atHL_A,
   .op .ld_A_B, .op .ld_A_C, .op .ld_A_D, .op .ld_A_E, .op .ld_A_H, .op .ld_A_L, .op .ld_A_atHL, .op .ld_A_A]

/-- Row 8x of `primaryTable`. -/
def primaryTable8 : List Shape :=
  [.op .add_A_B, .op .add_A_C, .op .add_A_D, .op .add_A_E, .op .add_A_H, .op .add_A_L, .op .add_A_atHL, .op .add_A_A,
   .op .adc_A_B, .op .adc_A_C, .op .adc_A_D, .op .adc_A_E, .op .adc_A_H, .op .adc_A_L, .op .adc_A_atHL, .op .adc_A_A]

/-- Row 9x of `primaryTable`. -/
def primaryTable9 : List Shape :=
  [.op .sub_B, .op .sub_C, .op .sub_D, .op .sub_E, .op .sub_H, .op .sub_L, .op .sub_atHL, .op .sub_A,
   .op .sbc_A_B, .op .sbc_A_C, .op .sbc_A_D, .op .sbc_A_E, .op .sbc_A_H, .op .sbc_A_L, .op .sbc_A_atHL, .op .sbc_A_A]

/-- Row Ax of `primaryTable`. -/
def primaryTableA : List Shape :=
  [.op .and_B, .op .and_C, .op .and_D, .op .and_E, .op .and_H, .op .and_L, .op .and_atHL, .op .and_A,
   .op .xor_B, .op .xor_C, .op .xor_D, .op .xor_E, .op .xor_H, .op .xor_L, .op .xor_atHL, .op .xor_A]

/-- Row Bx of `primaryTable`. -/
def primaryTableB : List Shape :=
  [.op .or_B, .op .or_C, .op .or_D, .op .or_E, .op .or_H, .op .or_L, .op .or_atHL, .op .or_A,
   .op .cp_B, .op .cp_C, .op .cp_D, .op .cp_E, .op .cp_H, .op .cp_L, .op .cp_atHL, .op .cp_A]

/-- Row Cx of `primaryTable`. -/
def primaryTableC : List Shape :=
  [.op .ret_NZ, .op .pop_BC, .n16 .jp_NZ_nn, .n16 .jp_nn, .n16 .call_NZ_nn, .op .push_BC, .n8 .add_A_n, .op .rst_00,
   .op .ret_Z, .op .ret, .n16 .jp_Z_nn, .cb, .n16 .call_Z_nn, .n16 .call_nn, .n8 .adc_A_n, .op .rst_08]

/-- Row Dx of `primaryTable`. -/
def primaryTableD : List Shape :=
  [.op .ret_NC, .op .pop_DE, .n16 .jp_NC_nn, .op .invalid_D3, .n16 .call_NC_nn, .op .push_DE, .n8 .sub_n, .op .rst_10,
   .op .ret_C, .op .reti, .n16 .jp_C_nn, .op .invalid_DB, .n16 .call_C_nn, .op .invalid_DD, .n8 .sbc_A_n, .op .rst_18]

/-- Row Ex of `primaryTable`. -/
def primaryTableE : List Shape :=
  [.n8 .ldh_atN_A, .op .pop_HL, .op .ld_atC_A, .op .invalid_E3, .op .invalid_E4, .op .push_HL, .n8 .and_n, .op .rst_20,
   .e8 .add_SP_e, .op .jp_HL, .n16 .ld_atNN_A, .op .invalid_EB, .op .invalid_EC, .op .invalid_ED, .n8 .xor_n, .op .rst_28]

/-- Row Fx of `primaryTable`. -/
def primaryTableF : List Shape :=
  [.n8 .ldh_A_atN, .op .pop_AF, .op .ld_A_atC, .op .di, .op .invalid_F4, .op .push_AF, .n8 .or_n, .op .rst_30,
   .e8 .ld_HL_SPe, .op .ld_SP_HL, .n16 .ld_A_atNN, .op .ei, .op .invalid_FC, .op .invalid_FD, .n8 .cp_n, .op .rst_38]

/-- R104. The cells `--` are the Invalid entries of R107. -/
def primaryTable : List (List Shape) :=
  [primaryTable0, primaryTable1, primaryTable2, primaryTable3,
   primaryTable4, primaryTable5, primaryTable6, primaryTable7,
   primaryTable8, primaryTable9, primaryTableA, primaryTableB,
   primaryTableC, primaryTableD, primaryTableE, primaryTableF]

/-- The format of the primary entry of an opcode byte (R94: every byte has exactly one). -/
def shapeOf (op : Byte) : Shape := cell primaryTable op (.op .nop)

/-- Row 0x of `extendedTable`. -/
def extendedTable0 : List Instr :=
  [.rlc_B, .rlc_C, .rlc_D, .rlc_E, .rlc_H, .rlc_L, .rlc_atHL, .rlc_A,
   .rrc_B, .rrc_C, .rrc_D, .rrc_E, .rrc_H, .rrc_L, .rrc_atHL, .rrc_A]

/-- Row 1x of `extendedTable`. -/
def extendedTable1 : List Instr :=
  [.rl_B, .rl_C, .rl_D, .rl_E, .rl_H, .rl_L, .rl_atHL, .rl_A, .rr_B, .rr_C, .rr_D, .rr_E, .rr_H, .rr_L, .rr_atHL, .rr_A]

/-- Row 2x of `extendedTable`. -/
def extendedTable2 : List Instr :=
  [.sla_B, .sla_C, .sla_D, .sla_E, .sla_H, .sla_L, .sla_atHL, .sla_A,
   .sra_B, .sra_C, .sra_D, .sra_E, .sra_H, .sra_L, .sra_atHL, .sra_A]

/-- Row 3x of `extendedTable`. -/
def extendedTable3 : List Instr :=
  [.swap_B, .swap_C, .swap_D, .swap_E, .swap_H, .swap_L, .swap_atHL, .swap_A,
   .srl_B, .srl_C, .srl_D, .srl_E, .srl_H, .srl_L, .srl_atHL, .srl_A]

/-- Row 4x of `extendedTable`. -/
def extendedTable4 : List Instr :=
  [.bit_0_B, .bit_0_C, .bit_0_D, .bit_0_E, .bit_0_H, .bit_0_L, .bit_0_atHL, .bit_0_A,
   .bit_1_B, .bit_1_C, .bit_1_D, .bit_1_E, .bit_1_H, .bit_1_L, .bit_1_atHL, .bit_1_A]

/-- Row 5x of `extendedTable`. -/
def extendedTable5 : List Instr :=
  [.bit_2_B, .bit_2_C, .bit_2_D, .bit_2_E, .bit_2_H, .bit_2_L, .bit_2_atHL, .bit_2_A,
   .bit_3_B, .bit_3_C, .bit_3_D, .bit_3_E, .bit_3_H, .bit_3_L, .bit_3_atHL, .bit_3_A]

/-- Row 6x of `extendedTable`. -/
def extendedTable6 : List Instr :=
  [.bit_4_B, .bit_4_C, .bit_4_D, .bit_4_E, .bit_4_H, .bit_4_L, .bit_4_atHL, .bit_4_A,
   .bit_5_B, .bit_5_C, .bit_5_D, .bit_5_E, .bit_5_H, .bit_5_L, .bit_5_atHL, .bit_5_A]

/-- Row 7x of `extendedTable`. -/
def extendedTable7 : List Instr :=
  [.bit_6_B, .bit_6_C, .bit_6_D, .bit_6_E, .bit_6_H, .bit_6_L, .bit_6_atHL, .bit_6_A,
   .bit_7_B, .bit_7_C, .bit_7_D, .bit_7_E, .bit_7_H, .bit_7_L, .bit_7_atHL, .bit_7_A]

/-- Row 8x of `extendedTable`. -/
def extendedTable8 : List Instr :=
  [.res_0_B, .res_0_C, .res_0_D, .res_0_E, .res_0_H, .res_0_L, .res_0_atHL, .res_0_A,
   .res_1_B, .res_1_C, .res_1_D, .res_1_E, .res_1_H, .res_1_L, .res_1_atHL, .res_1_A]

/-- Row 9x of `extendedTable`. -/
def extendedTable9 : List Instr :=
  [.res_2_B, .res_2_C, .res_2_D, .res_2_E, .res_2_H, .res_2_L, .res_2_atHL, .res_2_A,
   .res_3_B, .res_3_C, .res_3_D, .res_3_E, .res_3_H, .res_3_L, .res_3_atHL, .res_3_A]

/-- Row Ax of `extendedTable`. -/
def extendedTableA : List Instr :=
  [.res_4_B, .res_4_C, .res_4_D, .res_4_E, .res_4_H, .res_4_L, .res_4_atHL, .res_4_A,
   .res_5_B, .res_5_C, .res_5_D, .res_5_E, .res_5_H, .res_5_L, .res_5_atHL, .res_5_A]

/-- Row Bx of `extendedTable`. -/
def extendedTableB : List Instr :=
  [.res_6_B, .res_6_C, .res_6_D, .res_6_E, .res_6_H, .res_6_L, .res_6_atHL, .res_6_A,
   .res_7_B, .res_7_C, .res_7_D, .res_7_E, .res_7_H, .res_7_L, .res_7_atHL, .res_7_A]

/-- Row Cx of `extendedTable`. -/
def extendedTableC : List Instr :=
  [.set_0_B, .set_0_C, .set_0_D, .set_0_E, .set_0_H, .set_0_L, .set_0_atHL, .set_0_A,
   .set_1_B, .set_1_C, .set_1_D, .set_1_E, .set_1_H, .set_1_L, .set_1_atHL, .set_1_A]

/-- Row Dx of `extendedTable`. -/
def extendedTableD : List Instr :=
  [.set_2_B, .set_2_C, .set_2_D, .set_2_E, .set_2_H, .set_2_L, .set_2_atHL, .set_2_A,
   .set_3_B, .set_3_C, .set_3_D, .set_3_E, .set_3_H, .set_3_L, .set_3_atHL, .set_3_A]

/-- Row Ex of `extendedTable`. -/
def extendedTableE : List Instr :=
  [.set_4_B, .set_4_C, .set_4_D, .set_4_E, .set_4_H, .set_4_L, .set_4_atHL, .set_4_A,
   .set_5_B, .set_5_C, .set_5_D, .set_5_E, .set_5_H, .set_5_L, .set_5_atHL, .set_5_A]

/-- Row Fx of `extendedTable`. -/
def extendedTableF : List Instr :=
  [.set_6_B, .set_6_C, .set_6_D, .set_6_E, .set_6_H, .set_6_L, .set_6_atHL, .set_6_A,
   .set_7_B, .set_7_C, .set_7_D, .set_7_E, .set_7_H, .set_7_L, .set_7_atHL, .set_7_A]

/-- R106. The second byte of a prefixed instruction; no entry is Invalid. -/
def extendedTable : List (List Instr) :=
  [extendedTable0, extendedTable1, extendedTable2, extendedTable3,
   extendedTable4, extendedTable5, extendedTable6, extendedTable7,
   extendedTable8, extendedTable9, extendedTableA, extendedTableB,
   extendedTableC, extendedTableD, extendedTableE, extendedTableF]

/-- The extended entry of a byte that follows 0xCB (R103). -/
def extendedOf (op2 : Byte) : Instr := cell extendedTable op2 .nop

/-- How many bytes follow the opcode: the encoded length of R110 less one. For 0xCB the extended opcode is the one
byte that follows (R90: a prefixed instruction is exactly 2 bytes). -/
def operandBytes (p : Params) : Shape → Nat
  | .op _ => 0
  | .n8 _ => 1
  | .e8 _ => 1
  | .n16 _ => 2
  | .stop => match p.stopLength with
    | .one => 0
    | .two => 1
  | .cb => 1

/-- The instruction of an entry whose following bytes are `b1`, `b2` (those the length does not count are not used).
The immediate nn has its low byte first (R100, spec/20_memory.md R65). -/
def assemble (p : Params) (sh : Shape) (b1 b2 : Byte) : Instr :=
  match sh with
  | .op i => i
  | .n8 make => make b1
  | .e8 make => make b1
  | .n16 make => make (joinBytes b2 b1)
  | .stop => match p.stopLength with
    | .one => .stop none
    | .two => .stop (some b1)
  | .cb => extendedOf b1

/-- Why a list of bytes is no instruction. Every byte value has an entry (R94), so only a list that ends too early is
rejected; the eleven Invalid bytes decode to their own constructors (R107). -/
inductive DecodeError where
  | empty
  | truncated (opcode : Byte)
deriving DecidableEq, Repr

/-- What decoding a list of bytes gives: an instruction and the bytes after it, or a rejection by name. -/
inductive Decoded where
  | ok (i : Instr) (rest : List Byte)
  | rejected (why : DecodeError)
deriving DecidableEq, Repr

/-- Decoding (R90, R92): the first byte decides how many bytes the instruction has. -/
def decode (p : Params) : List Byte → Decoded
  | [] => .rejected .empty
  | op :: rest =>
    let sh := shapeOf op
    match operandBytes p sh, rest with
    | 0, rest => .ok (assemble p sh 0 0) rest
    | 1, b1 :: rest => .ok (assemble p sh b1 0) rest
    | 2, b1 :: b2 :: rest => .ok (assemble p sh b1 b2) rest
    | _, _ => .rejected (.truncated op)

/-- The instruction read from the bits `w` of a table word of `nbits` bits: the first byte is bits 7 to 0, the next
byte bits 15 to 8, and every bit from `nbits` on is 0. The parameters stand at their defaults. -/
def decodeTableWord (nbits w : Nat) : Option Instr :=
  let v := w % 2 ^ nbits
  match decode Params.default [BitVec.ofNat 8 v, BitVec.ofNat 8 (v / 2 ^ 8), BitVec.ofNat 8 (v / 2 ^ 16)] with
  | .ok i _ => some i
  | .rejected _ => none

/-- Row 0x of `primaryClasses`. -/
def primaryClasses0 : List Class :=
  [.misc, .load, .load, .alu, .alu, .alu, .load, .rotateShift,
   .load, .alu, .load, .alu, .alu, .alu, .load, .rotateShift]

/-- Row 1x of `primaryClasses`. -/
def primaryClasses1 : List Class :=
  [.misc, .load, .load, .alu, .alu, .alu, .load, .rotateShift,
   .jump, .alu, .load, .alu, .alu, .alu, .load, .rotateShift]

/-- Row 2x of `primaryClasses`. -/
def primaryClasses2 : List Class :=
  [.jump, .load, .load, .alu, .alu, .alu, .load, .misc, .jump, .alu, .load, .alu, .alu, .alu, .load, .misc]

/-- Row 3x of `primaryClasses`. -/
def primaryClasses3 : List Class :=
  [.jump, .load, .load, .alu, .alu, .alu, .load, .misc, .jump, .alu, .load, .alu, .alu, .alu, .load, .misc]

/-- Row 4x of `primaryClasses`. -/
def primaryClasses4 : List Class :=
  [.load, .load, .load, .load, .load, .load, .load, .load, .load, .load, .load, .load, .load, .load, .load, .load]

/-- Row 5x of `primaryClasses`. -/
def primaryClasses5 : List Class :=
  [.load, .load, .load, .load, .load, .load, .load, .load, .load, .load, .load, .load, .load, .load, .load, .load]

/-- Row 6x of `primaryClasses`. -/
def primaryClasses6 : List Class :=
  [.load, .load, .load, .load, .load, .load, .load, .load, .load, .load, .load, .load, .load, .load, .load, .load]

/-- Row 7x of `primaryClasses`. -/
def primaryClasses7 : List Class :=
  [.load, .load, .load, .load, .load, .load, .misc, .load, .load, .load, .load, .load, .load, .load, .load, .load]

/-- Row 8x of `primaryClasses`. -/
def primaryClasses8 : List Class :=
  [.alu, .alu, .alu, .alu, .alu, .alu, .alu, .alu, .alu, .alu, .alu, .alu, .alu, .alu, .alu, .alu]

/-- Row 9x of `primaryClasses`. -/
def primaryClasses9 : List Class :=
  [.alu, .alu, .alu, .alu, .alu, .alu, .alu, .alu, .alu, .alu, .alu, .alu, .alu, .alu, .alu, .alu]

/-- Row Ax of `primaryClasses`. -/
def primaryClassesA : List Class :=
  [.alu, .alu, .alu, .alu, .alu, .alu, .alu, .alu, .alu, .alu, .alu, .alu, .alu, .alu, .alu, .alu]

/-- Row Bx of `primaryClasses`. -/
def primaryClassesB : List Class :=
  [.alu, .alu, .alu, .alu, .alu, .alu, .alu, .alu, .alu, .alu, .alu, .alu, .alu, .alu, .alu, .alu]

/-- Row Cx of `primaryClasses`. -/
def primaryClassesC : List Class :=
  [.ret, .load, .jump, .jump, .call, .load, .alu, .call, .ret, .ret, .jump, .misc, .call, .call, .alu, .call]

/-- Row Dx of `primaryClasses`. -/
def primaryClassesD : List Class :=
  [.ret, .load, .jump, .invalid, .call, .load, .alu, .call, .ret, .ret, .jump, .invalid, .call, .invalid, .alu, .call]

/-- Row Ex of `primaryClasses`. -/
def primaryClassesE : List Class :=
  [.load, .load, .load, .invalid, .invalid, .load, .alu, .call, .alu, .jump, .load, .invalid, .invalid, .invalid, .alu, .call]

/-- Row Fx of `primaryClasses`. -/
def primaryClassesF : List Class :=
  [.load, .load, .load, .misc, .invalid, .load, .alu, .call, .load, .load, .load, .misc, .invalid, .invalid, .alu, .call]

/-- R109, the class tag of each primary entry. -/
def primaryClasses : List (List Class) :=
  [primaryClasses0, primaryClasses1, primaryClasses2, primaryClasses3,
   primaryClasses4, primaryClasses5, primaryClasses6, primaryClasses7,
   primaryClasses8, primaryClasses9, primaryClassesA, primaryClassesB,
   primaryClassesC, primaryClassesD, primaryClassesE, primaryClassesF]

/-- A table entry of R93, less its action. -/
structure Descriptor where
  opcode : Byte
  cls : Class
  /-- Encoded length in bytes, the prefix byte counted. -/
  length : Nat
  /-- Base cost; none where no count is reported. -/
  cycles : Option Nat
  /-- The larger cost of a conditional jump, call or return that is taken. -/
  taken : Option Nat
deriving DecidableEq, Repr

/-- Whether a primary entry is conditional: JR cc, RET cc, JP cc or CALL cc (R105). -/
def isConditional (op : Byte) : Bool :=
  op &&& 0xE7#8 == 0x20#8 || op &&& 0xE7#8 == 0xC0#8 || op &&& 0xE7#8 == 0xC2#8 || op &&& 0xE7#8 == 0xC4#8

/-- The primary table's descriptor of a byte (R93), its costs those of the parameter CYCLES. -/
def primaryDescriptor (p : Params) (op : Byte) : Descriptor :=
  let cls := cell primaryClasses op .misc
  { opcode := op
    cls := cls
    length := 1 + operandBytes p (shapeOf op)
    cycles := if cls = .invalid ∨ op = 0xCB#8 then none else some (p.cycles.baseOf op)
    taken := if isConditional op then some (p.cycles.takenOf op) else none }

/-- The extended table's descriptor of a second byte (R93, R109). -/
def extendedDescriptor (p : Params) (op2 : Byte) : Descriptor :=
  { opcode := op2
    cls := if fieldX op2 = 0#2 then .rotateShift else .bitOp
    length := 2
    cycles := some (p.cycles.extendedOf op2)
    taken := none }

/-- The bytes of an instruction, from the encoding column of spec/opcode_table.json (R91: opcode first, then the
immediate, low byte first). -/
def encode : Instr → List Byte
  | .nop => [0x00#8]
  | .ld_BC_nn nn => [0x01#8, loByte nn, hiByte nn]
  | .ld_atBC_A => [0x02#8]
  | .inc_BC => [0x03#8]
  | .inc_B => [0x04#8]
  | .dec_B => [0x05#8]
  | .ld_B_n n => [0x06#8, n]
  | .rlca => [0x07#8]
  | .ld_atNN_SP nn => [0x08#8, loByte nn, hiByte nn]
  | .add_HL_BC => [0x09#8]
  | .ld_A_atBC => [0x0A#8]
  | .dec_BC => [0x0B#8]
  | .inc_C => [0x0C#8]
  | .dec_C => [0x0D#8]
  | .ld_C_n n => [0x0E#8, n]
  | .rrca => [0x0F#8]
  | .stop none => [0x10#8]
  | .stop (some n) => [0x10#8, n]
  | .ld_DE_nn nn => [0x11#8, loByte nn, hiByte nn]
  | .ld_atDE_A => [0x12#8]
  | .inc_DE => [0x13#8]
  | .inc_D => [0x14#8]
  | .dec_D => [0x15#8]
  | .ld_D_n n => [0x16#8, n]
  | .rla => [0x17#8]
  | .jr_e e => [0x18#8, e]
  | .add_HL_DE => [0x19#8]
  | .ld_A_atDE => [0x1A#8]
  | .dec_DE => [0x1B#8]
  | .inc_E => [0x1C#8]
  | .dec_E => [0x1D#8]
  | .ld_E_n n => [0x1E#8, n]
  | .rra => [0x1F#8]
  | .jr_NZ_e e => [0x20#8, e]
  | .ld_HL_nn nn => [0x21#8, loByte nn, hiByte nn]
  | .ld_atHLinc_A => [0x22#8]
  | .inc_HL => [0x23#8]
  | .inc_H => [0x24#8]
  | .dec_H => [0x25#8]
  | .ld_H_n n => [0x26#8, n]
  | .daa => [0x27#8]
  | .jr_Z_e e => [0x28#8, e]
  | .add_HL_HL => [0x29#8]
  | .ld_A_atHLinc => [0x2A#8]
  | .dec_HL => [0x2B#8]
  | .inc_L => [0x2C#8]
  | .dec_L => [0x2D#8]
  | .ld_L_n n => [0x2E#8, n]
  | .cpl => [0x2F#8]
  | .jr_NC_e e => [0x30#8, e]
  | .ld_SP_nn nn => [0x31#8, loByte nn, hiByte nn]
  | .ld_atHLdec_A => [0x32#8]
  | .inc_SP => [0x33#8]
  | .inc_atHL => [0x34#8]
  | .dec_atHL => [0x35#8]
  | .ld_atHL_n n => [0x36#8, n]
  | .scf => [0x37#8]
  | .jr_C_e e => [0x38#8, e]
  | .add_HL_SP => [0x39#8]
  | .ld_A_atHLdec => [0x3A#8]
  | .dec_SP => [0x3B#8]
  | .inc_A => [0x3C#8]
  | .dec_A => [0x3D#8]
  | .ld_A_n n => [0x3E#8, n]
  | .ccf => [0x3F#8]
  | .ld_B_B => [0x40#8]
  | .ld_B_C => [0x41#8]
  | .ld_B_D => [0x42#8]
  | .ld_B_E => [0x43#8]
  | .ld_B_H => [0x44#8]
  | .ld_B_L => [0x45#8]
  | .ld_B_atHL => [0x46#8]
  | .ld_B_A => [0x47#8]
  | .ld_C_B => [0x48#8]
  | .ld_C_C => [0x49#8]
  | .ld_C_D => [0x4A#8]
  | .ld_C_E => [0x4B#8]
  | .ld_C_H => [0x4C#8]
  | .ld_C_L => [0x4D#8]
  | .ld_C_atHL => [0x4E#8]
  | .ld_C_A => [0x4F#8]
  | .ld_D_B => [0x50#8]
  | .ld_D_C => [0x51#8]
  | .ld_D_D => [0x52#8]
  | .ld_D_E => [0x53#8]
  | .ld_D_H => [0x54#8]
  | .ld_D_L => [0x55#8]
  | .ld_D_atHL => [0x56#8]
  | .ld_D_A => [0x57#8]
  | .ld_E_B => [0x58#8]
  | .ld_E_C => [0x59#8]
  | .ld_E_D => [0x5A#8]
  | .ld_E_E => [0x5B#8]
  | .ld_E_H => [0x5C#8]
  | .ld_E_L => [0x5D#8]
  | .ld_E_atHL => [0x5E#8]
  | .ld_E_A => [0x5F#8]
  | .ld_H_B => [0x60#8]
  | .ld_H_C => [0x61#8]
  | .ld_H_D => [0x62#8]
  | .ld_H_E => [0x63#8]
  | .ld_H_H => [0x64#8]
  | .ld_H_L => [0x65#8]
  | .ld_H_atHL => [0x66#8]
  | .ld_H_A => [0x67#8]
  | .ld_L_B => [0x68#8]
  | .ld_L_C => [0x69#8]
  | .ld_L_D => [0x6A#8]
  | .ld_L_E => [0x6B#8]
  | .ld_L_H => [0x6C#8]
  | .ld_L_L => [0x6D#8]
  | .ld_L_atHL => [0x6E#8]
  | .ld_L_A => [0x6F#8]
  | .ld_atHL_B => [0x70#8]
  | .ld_atHL_C => [0x71#8]
  | .ld_atHL_D => [0x72#8]
  | .ld_atHL_E => [0x73#8]
  | .ld_atHL_H => [0x74#8]
  | .ld_atHL_L => [0x75#8]
  | .halt => [0x76#8]
  | .ld_atHL_A => [0x77#8]
  | .ld_A_B => [0x78#8]
  | .ld_A_C => [0x79#8]
  | .ld_A_D => [0x7A#8]
  | .ld_A_E => [0x7B#8]
  | .ld_A_H => [0x7C#8]
  | .ld_A_L => [0x7D#8]
  | .ld_A_atHL => [0x7E#8]
  | .ld_A_A => [0x7F#8]
  | .add_A_B => [0x80#8]
  | .add_A_C => [0x81#8]
  | .add_A_D => [0x82#8]
  | .add_A_E => [0x83#8]
  | .add_A_H => [0x84#8]
  | .add_A_L => [0x85#8]
  | .add_A_atHL => [0x86#8]
  | .add_A_A => [0x87#8]
  | .adc_A_B => [0x88#8]
  | .adc_A_C => [0x89#8]
  | .adc_A_D => [0x8A#8]
  | .adc_A_E => [0x8B#8]
  | .adc_A_H => [0x8C#8]
  | .adc_A_L => [0x8D#8]
  | .adc_A_atHL => [0x8E#8]
  | .adc_A_A => [0x8F#8]
  | .sub_B => [0x90#8]
  | .sub_C => [0x91#8]
  | .sub_D => [0x92#8]
  | .sub_E => [0x93#8]
  | .sub_H => [0x94#8]
  | .sub_L => [0x95#8]
  | .sub_atHL => [0x96#8]
  | .sub_A => [0x97#8]
  | .sbc_A_B => [0x98#8]
  | .sbc_A_C => [0x99#8]
  | .sbc_A_D => [0x9A#8]
  | .sbc_A_E => [0x9B#8]
  | .sbc_A_H => [0x9C#8]
  | .sbc_A_L => [0x9D#8]
  | .sbc_A_atHL => [0x9E#8]
  | .sbc_A_A => [0x9F#8]
  | .and_B => [0xA0#8]
  | .and_C => [0xA1#8]
  | .and_D => [0xA2#8]
  | .and_E => [0xA3#8]
  | .and_H => [0xA4#8]
  | .and_L => [0xA5#8]
  | .and_atHL => [0xA6#8]
  | .and_A => [0xA7#8]
  | .xor_B => [0xA8#8]
  | .xor_C => [0xA9#8]
  | .xor_D => [0xAA#8]
  | .xor_E => [0xAB#8]
  | .xor_H => [0xAC#8]
  | .xor_L => [0xAD#8]
  | .xor_atHL => [0xAE#8]
  | .xor_A => [0xAF#8]
  | .or_B => [0xB0#8]
  | .or_C => [0xB1#8]
  | .or_D => [0xB2#8]
  | .or_E => [0xB3#8]
  | .or_H => [0xB4#8]
  | .or_L => [0xB5#8]
  | .or_atHL => [0xB6#8]
  | .or_A => [0xB7#8]
  | .cp_B => [0xB8#8]
  | .cp_C => [0xB9#8]
  | .cp_D => [0xBA#8]
  | .cp_E => [0xBB#8]
  | .cp_H => [0xBC#8]
  | .cp_L => [0xBD#8]
  | .cp_atHL => [0xBE#8]
  | .cp_A => [0xBF#8]
  | .ret_NZ => [0xC0#8]
  | .pop_BC => [0xC1#8]
  | .jp_NZ_nn nn => [0xC2#8, loByte nn, hiByte nn]
  | .jp_nn nn => [0xC3#8, loByte nn, hiByte nn]
  | .call_NZ_nn nn => [0xC4#8, loByte nn, hiByte nn]
  | .push_BC => [0xC5#8]
  | .add_A_n n => [0xC6#8, n]
  | .rst_00 => [0xC7#8]
  | .ret_Z => [0xC8#8]
  | .ret => [0xC9#8]
  | .jp_Z_nn nn => [0xCA#8, loByte nn, hiByte nn]
  | .prefix_CB opcode2 => [0xCB#8, opcode2]
  | .call_Z_nn nn => [0xCC#8, loByte nn, hiByte nn]
  | .call_nn nn => [0xCD#8, loByte nn, hiByte nn]
  | .adc_A_n n => [0xCE#8, n]
  | .rst_08 => [0xCF#8]
  | .ret_NC => [0xD0#8]
  | .pop_DE => [0xD1#8]
  | .jp_NC_nn nn => [0xD2#8, loByte nn, hiByte nn]
  | .invalid_D3 => [0xD3#8]
  | .call_NC_nn nn => [0xD4#8, loByte nn, hiByte nn]
  | .push_DE => [0xD5#8]
  | .sub_n n => [0xD6#8, n]
  | .rst_10 => [0xD7#8]
  | .ret_C => [0xD8#8]
  | .reti => [0xD9#8]
  | .jp_C_nn nn => [0xDA#8, loByte nn, hiByte nn]
  | .invalid_DB => [0xDB#8]
  | .call_C_nn nn => [0xDC#8, loByte nn, hiByte nn]
  | .invalid_DD => [0xDD#8]
  | .sbc_A_n n => [0xDE#8, n]
  | .rst_18 => [0xDF#8]
  | .ldh_atN_A n => [0xE0#8, n]
  | .pop_HL => [0xE1#8]
  | .ld_atC_A => [0xE2#8]
  | .invalid_E3 => [0xE3#8]
  | .invalid_E4 => [0xE4#8]
  | .push_HL => [0xE5#8]
  | .and_n n => [0xE6#8, n]
  | .rst_20 => [0xE7#8]
  | .add_SP_e e => [0xE8#8, e]
  | .jp_HL => [0xE9#8]
  | .ld_atNN_A nn => [0xEA#8, loByte nn, hiByte nn]
  | .invalid_EB => [0xEB#8]
  | .invalid_EC => [0xEC#8]
  | .invalid_ED => [0xED#8]
  | .xor_n n => [0xEE#8, n]
  | .rst_28 => [0xEF#8]
  | .ldh_A_atN n => [0xF0#8, n]
  | .pop_AF => [0xF1#8]
  | .ld_A_atC => [0xF2#8]
  | .di => [0xF3#8]
  | .invalid_F4 => [0xF4#8]
  | .push_AF => [0xF5#8]
  | .or_n n => [0xF6#8, n]
  | .rst_30 => [0xF7#8]
  | .ld_HL_SPe e => [0xF8#8, e]
  | .ld_SP_HL => [0xF9#8]
  | .ld_A_atNN nn => [0xFA#8, loByte nn, hiByte nn]
  | .ei => [0xFB#8]
  | .invalid_FC => [0xFC#8]
  | .invalid_FD => [0xFD#8]
  | .cp_n n => [0xFE#8, n]
  | .rst_38 => [0xFF#8]
  | .rlc_B => [0xCB#8, 0x00#8]
  | .rlc_C => [0xCB#8, 0x01#8]
  | .rlc_D => [0xCB#8, 0x02#8]
  | .rlc_E => [0xCB#8, 0x03#8]
  | .rlc_H => [0xCB#8, 0x04#8]
  | .rlc_L => [0xCB#8, 0x05#8]
  | .rlc_atHL => [0xCB#8, 0x06#8]
  | .rlc_A => [0xCB#8, 0x07#8]
  | .rrc_B => [0xCB#8, 0x08#8]
  | .rrc_C => [0xCB#8, 0x09#8]
  | .rrc_D => [0xCB#8, 0x0A#8]
  | .rrc_E => [0xCB#8, 0x0B#8]
  | .rrc_H => [0xCB#8, 0x0C#8]
  | .rrc_L => [0xCB#8, 0x0D#8]
  | .rrc_atHL => [0xCB#8, 0x0E#8]
  | .rrc_A => [0xCB#8, 0x0F#8]
  | .rl_B => [0xCB#8, 0x10#8]
  | .rl_C => [0xCB#8, 0x11#8]
  | .rl_D => [0xCB#8, 0x12#8]
  | .rl_E => [0xCB#8, 0x13#8]
  | .rl_H => [0xCB#8, 0x14#8]
  | .rl_L => [0xCB#8, 0x15#8]
  | .rl_atHL => [0xCB#8, 0x16#8]
  | .rl_A => [0xCB#8, 0x17#8]
  | .rr_B => [0xCB#8, 0x18#8]
  | .rr_C => [0xCB#8, 0x19#8]
  | .rr_D => [0xCB#8, 0x1A#8]
  | .rr_E => [0xCB#8, 0x1B#8]
  | .rr_H => [0xCB#8, 0x1C#8]
  | .rr_L => [0xCB#8, 0x1D#8]
  | .rr_atHL => [0xCB#8, 0x1E#8]
  | .rr_A => [0xCB#8, 0x1F#8]
  | .sla_B => [0xCB#8, 0x20#8]
  | .sla_C => [0xCB#8, 0x21#8]
  | .sla_D => [0xCB#8, 0x22#8]
  | .sla_E => [0xCB#8, 0x23#8]
  | .sla_H => [0xCB#8, 0x24#8]
  | .sla_L => [0xCB#8, 0x25#8]
  | .sla_atHL => [0xCB#8, 0x26#8]
  | .sla_A => [0xCB#8, 0x27#8]
  | .sra_B => [0xCB#8, 0x28#8]
  | .sra_C => [0xCB#8, 0x29#8]
  | .sra_D => [0xCB#8, 0x2A#8]
  | .sra_E => [0xCB#8, 0x2B#8]
  | .sra_H => [0xCB#8, 0x2C#8]
  | .sra_L => [0xCB#8, 0x2D#8]
  | .sra_atHL => [0xCB#8, 0x2E#8]
  | .sra_A => [0xCB#8, 0x2F#8]
  | .swap_B => [0xCB#8, 0x30#8]
  | .swap_C => [0xCB#8, 0x31#8]
  | .swap_D => [0xCB#8, 0x32#8]
  | .swap_E => [0xCB#8, 0x33#8]
  | .swap_H => [0xCB#8, 0x34#8]
  | .swap_L => [0xCB#8, 0x35#8]
  | .swap_atHL => [0xCB#8, 0x36#8]
  | .swap_A => [0xCB#8, 0x37#8]
  | .srl_B => [0xCB#8, 0x38#8]
  | .srl_C => [0xCB#8, 0x39#8]
  | .srl_D => [0xCB#8, 0x3A#8]
  | .srl_E => [0xCB#8, 0x3B#8]
  | .srl_H => [0xCB#8, 0x3C#8]
  | .srl_L => [0xCB#8, 0x3D#8]
  | .srl_atHL => [0xCB#8, 0x3E#8]
  | .srl_A => [0xCB#8, 0x3F#8]
  | .bit_0_B => [0xCB#8, 0x40#8]
  | .bit_0_C => [0xCB#8, 0x41#8]
  | .bit_0_D => [0xCB#8, 0x42#8]
  | .bit_0_E => [0xCB#8, 0x43#8]
  | .bit_0_H => [0xCB#8, 0x44#8]
  | .bit_0_L => [0xCB#8, 0x45#8]
  | .bit_0_atHL => [0xCB#8, 0x46#8]
  | .bit_0_A => [0xCB#8, 0x47#8]
  | .bit_1_B => [0xCB#8, 0x48#8]
  | .bit_1_C => [0xCB#8, 0x49#8]
  | .bit_1_D => [0xCB#8, 0x4A#8]
  | .bit_1_E => [0xCB#8, 0x4B#8]
  | .bit_1_H => [0xCB#8, 0x4C#8]
  | .bit_1_L => [0xCB#8, 0x4D#8]
  | .bit_1_atHL => [0xCB#8, 0x4E#8]
  | .bit_1_A => [0xCB#8, 0x4F#8]
  | .bit_2_B => [0xCB#8, 0x50#8]
  | .bit_2_C => [0xCB#8, 0x51#8]
  | .bit_2_D => [0xCB#8, 0x52#8]
  | .bit_2_E => [0xCB#8, 0x53#8]
  | .bit_2_H => [0xCB#8, 0x54#8]
  | .bit_2_L => [0xCB#8, 0x55#8]
  | .bit_2_atHL => [0xCB#8, 0x56#8]
  | .bit_2_A => [0xCB#8, 0x57#8]
  | .bit_3_B => [0xCB#8, 0x58#8]
  | .bit_3_C => [0xCB#8, 0x59#8]
  | .bit_3_D => [0xCB#8, 0x5A#8]
  | .bit_3_E => [0xCB#8, 0x5B#8]
  | .bit_3_H => [0xCB#8, 0x5C#8]
  | .bit_3_L => [0xCB#8, 0x5D#8]
  | .bit_3_atHL => [0xCB#8, 0x5E#8]
  | .bit_3_A => [0xCB#8, 0x5F#8]
  | .bit_4_B => [0xCB#8, 0x60#8]
  | .bit_4_C => [0xCB#8, 0x61#8]
  | .bit_4_D => [0xCB#8, 0x62#8]
  | .bit_4_E => [0xCB#8, 0x63#8]
  | .bit_4_H => [0xCB#8, 0x64#8]
  | .bit_4_L => [0xCB#8, 0x65#8]
  | .bit_4_atHL => [0xCB#8, 0x66#8]
  | .bit_4_A => [0xCB#8, 0x67#8]
  | .bit_5_B => [0xCB#8, 0x68#8]
  | .bit_5_C => [0xCB#8, 0x69#8]
  | .bit_5_D => [0xCB#8, 0x6A#8]
  | .bit_5_E => [0xCB#8, 0x6B#8]
  | .bit_5_H => [0xCB#8, 0x6C#8]
  | .bit_5_L => [0xCB#8, 0x6D#8]
  | .bit_5_atHL => [0xCB#8, 0x6E#8]
  | .bit_5_A => [0xCB#8, 0x6F#8]
  | .bit_6_B => [0xCB#8, 0x70#8]
  | .bit_6_C => [0xCB#8, 0x71#8]
  | .bit_6_D => [0xCB#8, 0x72#8]
  | .bit_6_E => [0xCB#8, 0x73#8]
  | .bit_6_H => [0xCB#8, 0x74#8]
  | .bit_6_L => [0xCB#8, 0x75#8]
  | .bit_6_atHL => [0xCB#8, 0x76#8]
  | .bit_6_A => [0xCB#8, 0x77#8]
  | .bit_7_B => [0xCB#8, 0x78#8]
  | .bit_7_C => [0xCB#8, 0x79#8]
  | .bit_7_D => [0xCB#8, 0x7A#8]
  | .bit_7_E => [0xCB#8, 0x7B#8]
  | .bit_7_H => [0xCB#8, 0x7C#8]
  | .bit_7_L => [0xCB#8, 0x7D#8]
  | .bit_7_atHL => [0xCB#8, 0x7E#8]
  | .bit_7_A => [0xCB#8, 0x7F#8]
  | .res_0_B => [0xCB#8, 0x80#8]
  | .res_0_C => [0xCB#8, 0x81#8]
  | .res_0_D => [0xCB#8, 0x82#8]
  | .res_0_E => [0xCB#8, 0x83#8]
  | .res_0_H => [0xCB#8, 0x84#8]
  | .res_0_L => [0xCB#8, 0x85#8]
  | .res_0_atHL => [0xCB#8, 0x86#8]
  | .res_0_A => [0xCB#8, 0x87#8]
  | .res_1_B => [0xCB#8, 0x88#8]
  | .res_1_C => [0xCB#8, 0x89#8]
  | .res_1_D => [0xCB#8, 0x8A#8]
  | .res_1_E => [0xCB#8, 0x8B#8]
  | .res_1_H => [0xCB#8, 0x8C#8]
  | .res_1_L => [0xCB#8, 0x8D#8]
  | .res_1_atHL => [0xCB#8, 0x8E#8]
  | .res_1_A => [0xCB#8, 0x8F#8]
  | .res_2_B => [0xCB#8, 0x90#8]
  | .res_2_C => [0xCB#8, 0x91#8]
  | .res_2_D => [0xCB#8, 0x92#8]
  | .res_2_E => [0xCB#8, 0x93#8]
  | .res_2_H => [0xCB#8, 0x94#8]
  | .res_2_L => [0xCB#8, 0x95#8]
  | .res_2_atHL => [0xCB#8, 0x96#8]
  | .res_2_A => [0xCB#8, 0x97#8]
  | .res_3_B => [0xCB#8, 0x98#8]
  | .res_3_C => [0xCB#8, 0x99#8]
  | .res_3_D => [0xCB#8, 0x9A#8]
  | .res_3_E => [0xCB#8, 0x9B#8]
  | .res_3_H => [0xCB#8, 0x9C#8]
  | .res_3_L => [0xCB#8, 0x9D#8]
  | .res_3_atHL => [0xCB#8, 0x9E#8]
  | .res_3_A => [0xCB#8, 0x9F#8]
  | .res_4_B => [0xCB#8, 0xA0#8]
  | .res_4_C => [0xCB#8, 0xA1#8]
  | .res_4_D => [0xCB#8, 0xA2#8]
  | .res_4_E => [0xCB#8, 0xA3#8]
  | .res_4_H => [0xCB#8, 0xA4#8]
  | .res_4_L => [0xCB#8, 0xA5#8]
  | .res_4_atHL => [0xCB#8, 0xA6#8]
  | .res_4_A => [0xCB#8, 0xA7#8]
  | .res_5_B => [0xCB#8, 0xA8#8]
  | .res_5_C => [0xCB#8, 0xA9#8]
  | .res_5_D => [0xCB#8, 0xAA#8]
  | .res_5_E => [0xCB#8, 0xAB#8]
  | .res_5_H => [0xCB#8, 0xAC#8]
  | .res_5_L => [0xCB#8, 0xAD#8]
  | .res_5_atHL => [0xCB#8, 0xAE#8]
  | .res_5_A => [0xCB#8, 0xAF#8]
  | .res_6_B => [0xCB#8, 0xB0#8]
  | .res_6_C => [0xCB#8, 0xB1#8]
  | .res_6_D => [0xCB#8, 0xB2#8]
  | .res_6_E => [0xCB#8, 0xB3#8]
  | .res_6_H => [0xCB#8, 0xB4#8]
  | .res_6_L => [0xCB#8, 0xB5#8]
  | .res_6_atHL => [0xCB#8, 0xB6#8]
  | .res_6_A => [0xCB#8, 0xB7#8]
  | .res_7_B => [0xCB#8, 0xB8#8]
  | .res_7_C => [0xCB#8, 0xB9#8]
  | .res_7_D => [0xCB#8, 0xBA#8]
  | .res_7_E => [0xCB#8, 0xBB#8]
  | .res_7_H => [0xCB#8, 0xBC#8]
  | .res_7_L => [0xCB#8, 0xBD#8]
  | .res_7_atHL => [0xCB#8, 0xBE#8]
  | .res_7_A => [0xCB#8, 0xBF#8]
  | .set_0_B => [0xCB#8, 0xC0#8]
  | .set_0_C => [0xCB#8, 0xC1#8]
  | .set_0_D => [0xCB#8, 0xC2#8]
  | .set_0_E => [0xCB#8, 0xC3#8]
  | .set_0_H => [0xCB#8, 0xC4#8]
  | .set_0_L => [0xCB#8, 0xC5#8]
  | .set_0_atHL => [0xCB#8, 0xC6#8]
  | .set_0_A => [0xCB#8, 0xC7#8]
  | .set_1_B => [0xCB#8, 0xC8#8]
  | .set_1_C => [0xCB#8, 0xC9#8]
  | .set_1_D => [0xCB#8, 0xCA#8]
  | .set_1_E => [0xCB#8, 0xCB#8]
  | .set_1_H => [0xCB#8, 0xCC#8]
  | .set_1_L => [0xCB#8, 0xCD#8]
  | .set_1_atHL => [0xCB#8, 0xCE#8]
  | .set_1_A => [0xCB#8, 0xCF#8]
  | .set_2_B => [0xCB#8, 0xD0#8]
  | .set_2_C => [0xCB#8, 0xD1#8]
  | .set_2_D => [0xCB#8, 0xD2#8]
  | .set_2_E => [0xCB#8, 0xD3#8]
  | .set_2_H => [0xCB#8, 0xD4#8]
  | .set_2_L => [0xCB#8, 0xD5#8]
  | .set_2_atHL => [0xCB#8, 0xD6#8]
  | .set_2_A => [0xCB#8, 0xD7#8]
  | .set_3_B => [0xCB#8, 0xD8#8]
  | .set_3_C => [0xCB#8, 0xD9#8]
  | .set_3_D => [0xCB#8, 0xDA#8]
  | .set_3_E => [0xCB#8, 0xDB#8]
  | .set_3_H => [0xCB#8, 0xDC#8]
  | .set_3_L => [0xCB#8, 0xDD#8]
  | .set_3_atHL => [0xCB#8, 0xDE#8]
  | .set_3_A => [0xCB#8, 0xDF#8]
  | .set_4_B => [0xCB#8, 0xE0#8]
  | .set_4_C => [0xCB#8, 0xE1#8]
  | .set_4_D => [0xCB#8, 0xE2#8]
  | .set_4_E => [0xCB#8, 0xE3#8]
  | .set_4_H => [0xCB#8, 0xE4#8]
  | .set_4_L => [0xCB#8, 0xE5#8]
  | .set_4_atHL => [0xCB#8, 0xE6#8]
  | .set_4_A => [0xCB#8, 0xE7#8]
  | .set_5_B => [0xCB#8, 0xE8#8]
  | .set_5_C => [0xCB#8, 0xE9#8]
  | .set_5_D => [0xCB#8, 0xEA#8]
  | .set_5_E => [0xCB#8, 0xEB#8]
  | .set_5_H => [0xCB#8, 0xEC#8]
  | .set_5_L => [0xCB#8, 0xED#8]
  | .set_5_atHL => [0xCB#8, 0xEE#8]
  | .set_5_A => [0xCB#8, 0xEF#8]
  | .set_6_B => [0xCB#8, 0xF0#8]
  | .set_6_C => [0xCB#8, 0xF1#8]
  | .set_6_D => [0xCB#8, 0xF2#8]
  | .set_6_E => [0xCB#8, 0xF3#8]
  | .set_6_H => [0xCB#8, 0xF4#8]
  | .set_6_L => [0xCB#8, 0xF5#8]
  | .set_6_atHL => [0xCB#8, 0xF6#8]
  | .set_6_A => [0xCB#8, 0xF7#8]
  | .set_7_B => [0xCB#8, 0xF8#8]
  | .set_7_C => [0xCB#8, 0xF9#8]
  | .set_7_D => [0xCB#8, 0xFA#8]
  | .set_7_E => [0xCB#8, 0xFB#8]
  | .set_7_H => [0xCB#8, 0xFC#8]
  | .set_7_L => [0xCB#8, 0xFD#8]
  | .set_7_atHL => [0xCB#8, 0xFE#8]
  | .set_7_A => [0xCB#8, 0xFF#8]

end Sys2Proof
end

