-- ==== Sys2Proof/Machine/State.lean ====
section
/-! DEFINITION. The state of the core as plain data (spec/10_state.md R20 to R36), the memory behind the bus
(spec/20_memory.md R60 to R62), the parameters of spec/00_scope.md R8, the ports of R43 to R49, and the state after
reset (spec/70_reset_and_hazards.md R380). -/

namespace Sys2Proof.Machine

/-- R32: the power states. -/
inductive Mode where
  | running
  | halted
  | stopped
deriving DecidableEq, Repr

/-- R33, R350: what the fault latch records, the opcode byte and the address it was fetched from. -/
structure IllegalOpcode where
  opcode : Byte
  addr : Word
deriving DecidableEq, Repr

/-- The memory of the plain-array bus (R62(a)): address and byte, addresses strictly rising, no entry equal to what
an unlisted address reads as. -/
abbrev Memory := List Host.Cell

/-- One access that an oracle bus has answered (R62(b), R70): what the core read, or what it wrote. -/
inductive BusAccess where
  | read (addr : Word) (v : Byte)
  | write (addr : Word) (v : Byte)
deriving DecidableEq, Repr

/-- What the outside presents to the core before and at one step (R44 to R46, R406). -/
structure Stimulus where
  /-- Bytes that peripherals write through the shared bus before the step (R76, R406). -/
  writes : List (Word × Byte)
  /-- The `reset` input (R45). -/
  reset : Bool
  /-- The `ime_set` input (R46). -/
  imeSet : Option Bool
  /-- The `irq` input as sampled at the start of the step (R44). -/
  irq : Bool
  /-- The `irq_vector` input (R44, R362). -/
  irqVector : Word
deriving DecidableEq, Repr

/-- The outside presents nothing: `irq` is 0 and nothing happens between the steps. -/
def Stimulus.quiet : Stimulus :=
  { writes := [], reset := false, imeSet := none, irq := false, irqVector := 0x0000#16 }

/-- What a step reports (R48): "either a cycle count or a fault, never both". -/
inductive Report where
  /-- No step has been made since reset. -/
  | nothing
  | cycles (n : Nat)
  | fault (x : IllegalOpcode)
deriving DecidableEq, Repr

/-- No step of this machine ends in a fault of this type. The core's one exception, IllegalOpcode, is described by the
spec (R350, R351) and so is taken: a next state with the latch `State.fault` set (assumption 7). "No other operation in
this core can fail" (R352). -/
inductive Fault where
deriving DecidableEq, Repr

/-- Why an instruction has no next state. -/
inductive Refusal where
  /-- Raised by an arm of `exec` whose instruction has no meaning yet; safe. No arm raises it now. -/
  | notModelled (mnemonic : String)
deriving DecidableEq, Repr

structure State where
  /-- R20, R21: the accumulator. -/
  a : Byte
  /-- R22: the flags, Z N H C in bits 7 to 4; bits 3 to 0 are 0. -/
  f : Byte
  b : Byte
  c : Byte
  d : Byte
  e : Byte
  h : Byte
  l : Byte
  /-- R28. -/
  sp : Word
  /-- R29. -/
  pc : Word
  /-- R30. -/
  ime : Bool
  /-- R31: an EI that has not taken effect yet. -/
  imePending : Bool
  /-- R32. -/
  mode : Mode
  /-- R33: the fault latch. -/
  fault : Option IllegalOpcode
  /-- The memory behind the plain-array bus (R62(a)). -/
  mem : Memory
  /-- The parameters of R8; no step writes them (assumption 1). -/
  params : Params
  /-- What the outside presents to the coming steps, the next step first (assumption 5). -/
  inputs : List Stimulus
  /-- The `cycles` and `fault` outputs of the last step (R48). -/
  report : Report
  /-- The `irq_ack` output of the last step (R44, R362). -/
  irqAck : Bool
  /-- The model's own: how many bytes an oracle bus has answered (assumption 6). -/
  draws : Nat
  /-- The model's own: the accesses an oracle bus has recorded, oldest first (R62(b), assumption 6). -/
  busLog : List BusAccess
deriving DecidableEq, Repr

/-- R380: the state after reset, with nothing placed in memory and the parameters at their defaults. -/
def State.reset : State :=
  { a := 0x01#8, f := 0xB0#8, b := 0x00#8, c := 0x13#8, d := 0x00#8, e := 0xD8#8, h := 0x01#8, l := 0x4D#8
    sp := 0xFFFE#16, pc := 0x0100#16
    ime := false, imePending := false, mode := .running, fault := none
    mem := [], params := Params.default
    inputs := [], report := .nothing, irqAck := false, draws := 0, busLog := [] }

/-- What a meaning answers. -/
abbrev Result := Host.Outcome State Fault Refusal

end Sys2Proof.Machine
end

