-- ==== Sys2Proof/Machine/Ops.lean ====
section
/-! DEFINITION. The named operations over memory, bus, stack and control state: the byte reads and writes of
spec/20_memory.md R60 to R70, `Push16` and `Pop16`, taking the one exception (spec/60_exceptions.md R350), the optional
interrupt dispatch and the return from it (R362, spec/45_jump_call_return.md R290), and the outside's transitions
Reset (spec/70_reset_and_hazards.md R380) and ImeSet (spec/10_state.md R46). -/

namespace Sys2Proof.Machine

/-- What an address that memory does not list reads as. The contents at the start of a run are the parameter InitMem
(R62(a), R74), which the spec leaves open; 0x00 is assumption 3, DESIGN CHOICE. -/
def Memory.unlisted : Byte := 0x00#8

/-- The byte at an address. -/
def Memory.lookup : Memory → Nat → Byte
  | [], _ => Memory.unlisted
  | cell :: rest, k => if cell.1 = k then cell.2 else Memory.lookup rest k

/-- Puts a byte at an address, keeping the canonical form. -/
def Memory.store : Memory → Nat → Byte → Memory
  | [], k, v => if v = Memory.unlisted then [] else [(k, v)]
  | cell :: rest, k, v =>
    if cell.1 < k then cell :: Memory.store rest k v
    else
      let above := if cell.1 = k then rest else cell :: rest
      if v = Memory.unlisted then above else (k, v) :: above

/-- The canonical form: addresses inside the address space and strictly rising, no entry equal to what an unlisted
address reads as. -/
def Memory.wf : Memory → Bool
  | [] => true
  | cell :: rest =>
    cell.1 < 65536 && cell.2 != Memory.unlisted && rest.all (fun later => cell.1 < later.1) && Memory.wf rest

/-- `MemRead(addr, 1)` on the plain array (R62(a)). -/
def Memory.read (m : Memory) (addr : Word) : Byte := Memory.lookup m addr.toNat

/-- `MemWrite(addr, 1, v)` on the plain array (R62(a)). -/
def Memory.write (m : Memory) (addr : Word) (v : Byte) : Memory := Memory.store m addr.toNat v

/-- `MemRead(addr, 1)` (R10): the byte, and the state after the access. The plain array answers from memory and changes
nothing (R71); the oracle answers a free byte and records the access (R62(b)). -/
def State.busRead (s : State) (addr : Word) : Byte × State :=
  match s.params.bus with
  | .plain => (s.mem.read addr, s)
  | .oracle =>
    let v := Config.busDraw s.draws
    (v, { s with draws := s.draws + 1, busLog := s.busLog ++ [.read addr v] })

/-- `MemWrite(addr, 1, v)` (R10): stored by the plain array, recorded by the oracle (R62). -/
def State.busWrite (s : State) (addr : Word) (v : Byte) : State :=
  match s.params.bus with
  | .plain => { s with mem := s.mem.write addr v }
  | .oracle => { s with busLog := s.busLog ++ [.write addr v] }

/-- `MemWrite(addr, 2, v)`: the low byte first, the second address modulo 2^16 (R67). -/
def State.busWrite16 (s : State) (addr : Word) (v : Word) : State :=
  (s.busWrite addr (loByte v)).busWrite (addr + 1) (hiByte v)

/-- `MemRead(addr, 2)`: the low byte first, the second address modulo 2^16 (R66). -/
def State.busRead16 (s : State) (addr : Word) : Word × State :=
  let lo := s.busRead addr
  let hi := lo.2.busRead (addr + 1)
  (joinBytes hi.1 lo.1, hi.2)

/-- `Push16(v)`: the high byte at SP-1, then the low byte at SP-2 (R68). -/
def State.push16 (s : State) (v : Word) : State :=
  let s1 := { s with sp := s.sp - 1 }
  let s2 := s1.busWrite s1.sp (hiByte v)
  let s3 := { s2 with sp := s2.sp - 1 }
  s3.busWrite s3.sp (loByte v)

/-- `Pop16()`: the low byte at SP, then the high byte at SP+1, SP up by 2 (R69). -/
def State.pop16 (s : State) : Word × State :=
  let lo := s.busRead s.sp
  let s1 := { lo.2 with sp := lo.2.sp + 1 }
  let hi := s1.busRead s1.sp
  (joinBytes hi.1 lo.1, { hi.2 with sp := hi.2.sp + 1 })

/-- `PC <- target` (R10). -/
def State.jump (s : State) (target : Word) : State := { s with pc := target }

/-- The step reports a cycle count (R48, R400). -/
def State.took (s : State) (n : Nat) : State := { s with report := .cycles n }

/-- The base cost of a primary opcode, as the parameter CYCLES gives it (R8, R93, R400). -/
def State.cost (s : State) (op : Byte) : Nat := s.params.cycles.baseOf op

/-- The cost of a conditional jump, call or return that is taken (R93, R400). -/
def State.takenCost (s : State) (op : Byte) : Nat := s.params.cycles.takenOf op

/-- The cost of an extended opcode, the prefix byte counted (R240, R400). -/
def State.extendedCost (s : State) (op2 : Byte) : Nat := s.params.cycles.extendedOf op2

/-- Taking IllegalOpcode (R350): the latch is set and the step reports the fault; nothing is saved or pushed and PC is
not redirected. -/
def State.raiseIllegalOpcode (s : State) (opcode : Byte) (addr : Word) : State :=
  { s with fault := some { opcode := opcode, addr := addr }, report := .fault { opcode := opcode, addr := addr } }

/-- Interrupt dispatch, with `IRQ_DISPATCH` on (R362): IME cleared, PC pushed, PC loaded from `irq_vector`, `irq_ack`
pulsed, 20 cycles. -/
def State.dispatchIrq (s : State) (vector : Word) : State :=
  let s1 := { s with ime := false, imePending := false }
  let s2 := (s1.push16 s1.pc).jump vector
  { s2 with irqAck := true, report := .cycles 20 }

/-- What RETI restores (R290, R363): PC from the stack and IME set at once. -/
def State.returnFromInterrupt (s : State) : State :=
  let popped := s.pop16
  { popped.2.jump popped.1 with ime := true, imePending := false }

/-- Reset (R380, R381): from any state, with a fault latched or not, the registers and control state take their reset
values; memory behind the bus is not touched. The parameters, the coming inputs and the oracle's record are not state of
the core and stay. -/
def State.applyReset (s : State) : State :=
  { State.reset with
    mem := s.mem, params := s.params, inputs := s.inputs, draws := s.draws, busLog := s.busLog }

/-- ImeSet(b) (R46): `IME <- b; ime_pending <- 0`. -/
def State.applyImeSet (s : State) (b : Bool) : State := { s with ime := b, imePending := false }

/-- The register snapshot of R49. -/
structure RegisterFile where
  a : Byte
  f : Byte
  b : Byte
  c : Byte
  d : Byte
  e : Byte
  h : Byte
  l : Byte
  sp : Word
  pc : Word
deriving DecidableEq, Repr

/-- The debug read port (R49): the ten registers as they stand between steps. -/
def State.snapshot (s : State) : RegisterFile :=
  { a := s.a, f := s.f, b := s.b, c := s.c, d := s.d, e := s.e, h := s.h, l := s.l, sp := s.sp, pc := s.pc }

end Sys2Proof.Machine
end

