-- ==== Sys2Proof/Machine/Fetch.lean ====
section
/-! DEFINITION. Fetching an instruction (spec/60_exceptions.md R340 lines 2 to 4, spec/30_encoding.md R92): every byte is one
bus read at PC, PC up by 1 after each, modulo 2^16. -/

namespace Sys2Proof.Machine

/-- `MemRead(PC,1); PC <- PC + 1`. -/
def State.fetchByte (s : State) : Byte × State :=
  let got := s.busRead s.pc
  (got.1, { got.2 with pc := got.2.pc + 1 })

/-- Lines 2 to 4 of R340: the opcode, then the bytes its entry counts. The state that is answered has PC behind the
instruction, as every action sees it (R92). -/
def State.fetch (s : State) : Instr × State :=
  let op := s.fetchByte
  let sh := shapeOf op.1
  match operandBytes s.params sh with
  | 0 => (assemble s.params sh 0 0, op.2)
  | 1 =>
    let b1 := op.2.fetchByte
    (assemble s.params sh b1.1 0, b1.2)
  | _ =>
    let b1 := op.2.fetchByte
    let b2 := b1.2.fetchByte
    (assemble s.params sh b1.1 b2.1, b2.2)

end Sys2Proof.Machine
end

