-- ==== Sys2Proof/Machine/Control.lean ====
section
/-! DEFINITION. The mode machine and what surrounds an instruction in a step (spec/60_exceptions.md R340 to R353,
R361, R362): the outside's transitions, which of its four ways a step takes, idling, waking, and the delayed set of
IME. -/

namespace Sys2Proof.Machine

/-- What the outside presents to this step; when the list has run out, nothing (assumption 5). -/
def State.stimulus (s : State) : Stimulus := s.inputs.headD Stimulus.quiet

/-- A byte written by a peripheral through the shared bus (R76, R406). The oracle answers every read freely, so under it
the write leaves no trace (assumption 12). -/
def State.externalWrite (s : State) (w : Word × Byte) : State :=
  match s.params.bus with
  | .plain => { s with mem := s.mem.write w.1 w.2 }
  | .oracle => s

/-- The state in which the step begins: the outside's writes, then Reset, then ImeSet (R353), and `irq_ack` back
at 0. -/
def State.outside (s : State) : State :=
  let x := s.stimulus
  let s1 := x.writes.foldl State.externalWrite { s with inputs := s.inputs.tail, irqAck := false }
  let s2 := if x.reset then s1.applyReset else s1
  match x.imeSet with
  | some b => s2.applyImeSet b
  | none => s2

/-- The four ways a step can go, highest priority first (R353). -/
inductive Way where
  /-- Line a: a fault is latched. -/
  | faulted (x : IllegalOpcode)
  /-- Line 1: Halted or Stopped, and `irq` is 0. -/
  | idle
  /-- Line b: `IRQ_DISPATCH` is on, `irq` and IME are 1. -/
  | dispatch
  /-- Lines c to 7. -/
  | execute
deriving DecidableEq, Repr

/-- Which way a step goes with the sampled `irq` (R340 lines a, 1, b). -/
def State.way (s : State) (irq : Bool) : Way :=
  match s.fault with
  | some x => .faulted x
  | none =>
    if s.mode ≠ .running ∧ irq = false then .idle
    else if s.params.irqDispatch = true ∧ irq = true ∧ s.ime = true then .dispatch
    else .execute

/-- Line a (R351): the same fault is reported again, nothing changes. -/
def State.reportFault (s : State) (x : IllegalOpcode) : State := { s with report := .fault x }

/-- R341, R342: nothing is fetched and nothing changes; `IDLE_CYCLES` are reported. -/
def State.idle (s : State) : State := s.took s.params.idleCycles

/-- R343, R344: the mode is Running again; the step goes on. -/
def State.wake (s : State) : State := { s with mode := .running }

/-- Line d (R346): with `p` the ime_pending of line c, an EI of an earlier step that is still pending takes effect. A
step that latched a fault has returned at line 5 and does not reach line d. -/
def State.settleIme (s : State) (p : Bool) : State :=
  if s.fault.isNone && p && s.imePending then { s with ime := true, imePending := false } else s

end Sys2Proof.Machine
end

