-- ==== Sys2Proof/Machine/Flags.lean ====
section
/-! DEFINITION. The flags of F (spec/10_state.md R22, R25) and every flag computation of the spec: the eight ALU functions
of spec/42_alu8.md R191, INC and DEC (R216, R218), the 16-bit additions of spec/43_alu16.md R231 and R234, the rotates
and shifts of spec/44_rotate_shift_bitop.md R245, and DAA (spec/46_misc.md R316). Sums and comparisons are on natural
numbers, as the spec says. -/

namespace Sys2Proof.Machine

/-- F with the four given flags; the low nibble is always 0 (R22). -/
def packFlags (z n h c : Bool) : Byte :=
  (if z then 0x80#8 else 0#8) ||| (if n then 0x40#8 else 0#8) ||| (if h then 0x20#8 else 0#8) |||
    (if c then 0x10#8 else 0#8)

/-- The Zero flag, F[7]. -/
def State.fZ (s : State) : Bool := s.f.getLsbD 7

/-- The Subtract flag, F[6]. -/
def State.fN (s : State) : Bool := s.f.getLsbD 6

/-- The Half-Carry flag, F[5]. -/
def State.fH (s : State) : Bool := s.f.getLsbD 5

/-- The Carry flag, F[4]. -/
def State.fC (s : State) : Bool := s.f.getLsbD 4

/-- Writes the four flags at once; a flag an instruction leaves alone is given its own value (R25). -/
def State.setFlags (s : State) (z n h c : Bool) : State := { s with f := packFlags z n h c }

/-- A flag used as a number, 0 or 1. -/
def flagNat (c : Bool) : Nat := if c then 1 else 0

/-- A flag used as the low bit of a byte. -/
def flagByte (c : Bool) : Byte := if c then 1#8 else 0#8

/-- The low nibble as a number. -/
def lowNibble (v : Byte) : Nat := (v &&& 0x0F#8).toNat

/-- A result byte with its four flags. -/
structure Flagged where
  res : Byte
  z : Bool
  n : Bool
  h : Bool
  c : Bool
deriving DecidableEq, Repr

/-- `add(a,b)` of R191. -/
def add8 (a b : Byte) : Flagged :=
  { res := a + b
    z := a + b == 0#8
    n := false
    h := decide (lowNibble a + lowNibble b > 0xF)
    c := decide (a.toNat + b.toNat > 0xFF) }

/-- `adc(a,b,c)` of R191. -/
def adc8 (a b : Byte) (c : Bool) : Flagged :=
  { res := a + b + flagByte c
    z := a + b + flagByte c == 0#8
    n := false
    h := decide (lowNibble a + lowNibble b + flagNat c > 0xF)
    c := decide (a.toNat + b.toNat + flagNat c > 0xFF) }

/-- `sub(a,b)` of R191. -/
def sub8 (a b : Byte) : Flagged :=
  { res := a - b
    z := a - b == 0#8
    n := true
    h := decide (lowNibble a < lowNibble b)
    c := decide (a.toNat < b.toNat) }

/-- `sbc(a,b,c)` of R191. -/
def sbc8 (a b : Byte) (c : Bool) : Flagged :=
  { res := a - b - flagByte c
    z := a - b - flagByte c == 0#8
    n := true
    h := decide (lowNibble a < lowNibble b + flagNat c)
    c := decide (a.toNat < b.toNat + flagNat c) }

/-- `and(a,b)` of R191: Half-Carry set, Carry clear. -/
def and8 (a b : Byte) : Flagged :=
  { res := a &&& b, z := a &&& b == 0#8, n := false, h := true, c := false }

/-- `xor(a,b)` of R191. -/
def xor8 (a b : Byte) : Flagged :=
  { res := a ^^^ b, z := a ^^^ b == 0#8, n := false, h := false, c := false }

/-- `or(a,b)` of R191. -/
def or8 (a b : Byte) : Flagged :=
  { res := a ||| b, z := a ||| b == 0#8, n := false, h := false, c := false }

/-- The function of an ALU operation (R191); `cp` has the flags of `sub`, and its result is not stored. -/
def aluFunction (op : AluOp) (a b : Byte) (c : Bool) : Flagged :=
  match op with
  | .add => add8 a b
  | .adc => adc8 a b c
  | .sub => sub8 a b
  | .sbc => sbc8 a b c
  | .and => and8 a b
  | .xor => xor8 a b
  | .or => or8 a b
  | .cp => sub8 a b

/-- INC's result and flags (R216); Carry keeps the value it is given. -/
def inc8 (v : Byte) (c : Bool) : Flagged :=
  { res := v + 1, z := v + 1 == 0#8, n := false, h := decide (lowNibble v + 1 > 0xF), c := c }

/-- DEC's result and flags (R218); Carry keeps the value it is given. -/
def dec8 (v : Byte) (c : Bool) : Flagged :=
  { res := v - 1, z := v - 1 == 0#8, n := true, h := decide (lowNibble v < 1), c := c }

/-- Half-Carry of SP plus the raw byte e (R177, R234): the carry out of bit 3. -/
def spPlusHalf (sp : Word) (e : Byte) : Bool :=
  decide ((sp &&& 0x000F#16).toNat + (zext16 e &&& 0x000F#16).toNat > 0x000F)

/-- Carry of SP plus the raw byte e (R177, R234): the carry out of bit 7. -/
def spPlusCarry (sp : Word) (e : Byte) : Bool :=
  decide ((sp &&& 0x00FF#16).toNat + (zext16 e).toNat > 0x00FF)

/-- Half-Carry of ADD HL,rr (R231): the carry out of bit 11. -/
def add16Half (a b : Word) : Bool :=
  decide ((a &&& 0x0FFF#16).toNat + (b &&& 0x0FFF#16).toNat > 0x0FFF)

/-- Carry of ADD HL,rr (R231): the carry out of bit 15. -/
def add16Carry (a b : Word) : Bool := decide (a.toNat + b.toNat > 0xFFFF)

/-- The result byte and the bit shifted out of a one-bit function (R245); SWAP shifts none out and clears Carry. -/
def rotFunction (op : RotOp) (v : Byte) (cin : Bool) : Byte × Bool :=
  match op with
  | .rlc => ((v <<< 1) ||| (v >>> 7), v.getLsbD 7)
  | .rrc => ((v >>> 1) ||| (v <<< 7), v.getLsbD 0)
  | .rl => ((v <<< 1) ||| flagByte cin, v.getLsbD 7)
  | .rr => ((v >>> 1) ||| (flagByte cin <<< 7), v.getLsbD 0)
  | .sla => (v <<< 1, v.getLsbD 7)
  | .sra => ((v >>> 1) ||| (v &&& 0x80#8), v.getLsbD 0)
  | .swap => (((v &&& 0x0F#8) <<< 4) ||| (v >>> 4), false)
  | .srl => (v >>> 1, v.getLsbD 0)

/-- DAA (R316): the adjusted A, with Zero of the result, Half-Carry clear, and Carry kept or set; Subtract keeps its
value. -/
def daa8 (a : Byte) (n h c : Bool) : Flagged :=
  let low := h || (!n && decide ((a &&& 0x0F#8).toNat > 0x09))
  let high := c || (!n && decide (a.toNat > 0x99))
  let adj : Byte := (if low then 0x06#8 else 0x00#8) ||| (if high then 0x60#8 else 0x00#8)
  let res := if n then a - adj else a + adj
  { res := res, z := res == 0#8, n := n, h := false, c := high }

end Sys2Proof.Machine
end

