-- ==== Sys2Proof/Machine/Operands.lean ====
section
/-! DEFINITION. The operand forms: 8-bit registers and their codes (spec/30_encoding.md R96), the paired views
(spec/10_state.md R23, R24; R97), the memory byte at HL, the second operand of an ALU instruction, the effective addresses
of spec/40_load8.md R151, and the conditions (R98). -/

namespace Sys2Proof.Machine

/-- `r[i]` for a named register (R10). -/
def State.reg (s : State) : Reg → Byte
  | .b => s.b
  | .c => s.c
  | .d => s.d
  | .e => s.e
  | .h => s.h
  | .l => s.l
  | .a => s.a

/-- `r[i] <- v` for a named register (R10). -/
def State.setReg (s : State) (r : Reg) (v : Byte) : State :=
  match r with
  | .b => { s with b := v }
  | .c => { s with c := v }
  | .d => { s with d := v }
  | .e => { s with e := v }
  | .h => { s with h := v }
  | .l => { s with l := v }
  | .a => { s with a := v }

/-- `BC = (B<<8)|C` (R23). -/
def State.bc (s : State) : Word := joinBytes s.b s.c

/-- `DE = (D<<8)|E` (R23). -/
def State.de (s : State) : Word := joinBytes s.d s.e

/-- `HL = (H<<8)|L` (R23). -/
def State.hl (s : State) : Word := joinBytes s.h s.l

/-- `AF = (A<<8)|F` (R23); F's low nibble reads as 0 (R22). -/
def State.af (s : State) : Word := joinBytes s.a (s.f &&& 0xF0#8)

/-- `BC <- v` (R23). -/
def State.setBC (s : State) (v : Word) : State := { s with b := hiByte v, c := loByte v }

/-- `DE <- v` (R23). -/
def State.setDE (s : State) (v : Word) : State := { s with d := hiByte v, e := loByte v }

/-- `HL <- v` (R23). -/
def State.setHL (s : State) (v : Word) : State := { s with h := hiByte v, l := loByte v }

/-- `AF <- v` (R24): the low nibble of F is forced to 0. -/
def State.setAF (s : State) (v : Word) : State := { s with a := hiByte v, f := loByte v &&& 0xF0#8 }

/-- `SP <- v` (R10). -/
def State.setSP (s : State) (v : Word) : State := { s with sp := v }

/-- The value of an operand `rr` (R97). -/
def State.pair (s : State) : Pair → Word
  | .bc => s.bc
  | .de => s.de
  | .hl => s.hl
  | .sp => s.sp

/-- `rr <- v` (R97, R171). -/
def State.setPair (s : State) (p : Pair) (v : Word) : State :=
  match p with
  | .bc => s.setBC v
  | .de => s.setDE v
  | .hl => s.setHL v
  | .sp => s.setSP v

/-- The value of an operand `qq` (R97). -/
def State.stackPair (s : State) : StackPair → Word
  | .bc => s.bc
  | .de => s.de
  | .hl => s.hl
  | .af => s.af

/-- `qq <- v` (R97, R180, R181). -/
def State.setStackPair (s : State) (p : StackPair) (v : Word) : State :=
  match p with
  | .bc => s.setBC v
  | .de => s.setDE v
  | .hl => s.setHL v
  | .af => s.setAF v

/-- The condition's value on F (R98). -/
def State.cond (s : State) : Cond → Bool
  | .nz => !s.fZ
  | .z => s.fZ
  | .nc => !s.fC
  | .c => s.fC

/-- Reads what a 3-bit operand code names; code 6 is `MemRead(HL,1)` (R10, R96). -/
def State.readTarget (s : State) : Target → Byte × State
  | .reg r => (s.reg r, s)
  | .atHL => s.busRead s.hl

/-- Writes what a 3-bit operand code names; code 6 is `MemWrite(HL,1,v)` (R96). -/
def State.writeTarget (s : State) (t : Target) (v : Byte) : State :=
  match t with
  | .reg r => s.setReg r v
  | .atHL => s.busWrite s.hl v

/-- Reads the second operand of an ALU instruction (R190 to R215). -/
def State.readSource (s : State) : Source → Byte × State
  | .reg r => (s.reg r, s)
  | .atHL => s.busRead s.hl
  | .imm n => (n, s)

/-- The effective address `0xFF00+n` of LDH and of the `(C)` forms (R147 to R151). -/
def highPage (n : Byte) : Word := 0xFF00#16 + zext16 n

/-- The operand of a 3-bit code (R96). -/
def targetOfCode (code : BitVec 3) : Target :=
  match code.toNat with
  | 0 => .reg .b
  | 1 => .reg .c
  | 2 => .reg .d
  | 3 => .reg .e
  | 4 => .reg .h
  | 5 => .reg .l
  | 6 => .atHL
  | _ => .reg .a

/-- The rotate or shift of a 3-bit code y (R106, R245). -/
def rotOfCode (code : BitVec 3) : RotOp :=
  match code.toNat with
  | 0 => .rlc
  | 1 => .rrc
  | 2 => .rl
  | 3 => .rr
  | 4 => .sla
  | 5 => .sra
  | 6 => .swap
  | _ => .srl

end Sys2Proof.Machine
end

