-- ==== Sys2Proof/Machine/Alu16.lean ====
section
/-! DEFINITION. The meanings of the 16-bit arithmetic (spec/43_alu16.md R230 to R234). -/

namespace Sys2Proof.Machine

/-- `ADD HL,rr` (R231): both operands read before any write; Zero untouched, Subtract cleared only under the parameter
`ADDHL_CLEARS_N`. -/
def addHL (p : Pair) (s : State) : State :=
  let a := s.hl
  let b := s.pair p
  (s.setHL (a + b)).setFlags s.fZ (s.fN && !s.params.addHlClearsN) (add16Half a b) (add16Carry a b)

/-- `rr <- rr + step` with step 1 or -1, modulo 2^16, no flag written (R232, R233). -/
def movePair (p : Pair) (step : Word) (s : State) : State := s.setPair p (s.pair p + step)

/-- `ADD SP,e` (R234): the flags exactly as for `LD HL,SP+e`. -/
def addSP (e : Byte) (s : State) : State :=
  (s.setSP (s.sp + sext16 e)).setFlags false false (spPlusHalf s.sp e) (spPlusCarry s.sp e)

/-- `INC BC` (R232). -/
def execInc_BC (s : State) : Result := .next ((movePair .bc 1 s).took (s.cost 0x03#8))

/-- `ADD HL,BC` (R231). -/
def execAdd_HL_BC (s : State) : Result := .next ((addHL .bc s).took (s.cost 0x09#8))

/-- `DEC BC` (R233). -/
def execDec_BC (s : State) : Result := .next ((movePair .bc (-1) s).took (s.cost 0x0B#8))

/-- `INC DE` (R232). -/
def execInc_DE (s : State) : Result := .next ((movePair .de 1 s).took (s.cost 0x13#8))

/-- `ADD HL,DE` (R231). -/
def execAdd_HL_DE (s : State) : Result := .next ((addHL .de s).took (s.cost 0x19#8))

/-- `DEC DE` (R233). -/
def execDec_DE (s : State) : Result := .next ((movePair .de (-1) s).took (s.cost 0x1B#8))

/-- `INC HL` (R232). -/
def execInc_HL (s : State) : Result := .next ((movePair .hl 1 s).took (s.cost 0x23#8))

/-- `ADD HL,HL` (R231). -/
def execAdd_HL_HL (s : State) : Result := .next ((addHL .hl s).took (s.cost 0x29#8))

/-- `DEC HL` (R233). -/
def execDec_HL (s : State) : Result := .next ((movePair .hl (-1) s).took (s.cost 0x2B#8))

/-- `INC SP` (R232). -/
def execInc_SP (s : State) : Result := .next ((movePair .sp 1 s).took (s.cost 0x33#8))

/-- `ADD HL,SP` (R231). -/
def execAdd_HL_SP (s : State) : Result := .next ((addHL .sp s).took (s.cost 0x39#8))

/-- `DEC SP` (R233). -/
def execDec_SP (s : State) : Result := .next ((movePair .sp (-1) s).took (s.cost 0x3B#8))

/-- `ADD SP,e` (R234). -/
def execAdd_SP_e (e : Byte) (s : State) : Result := .next ((addSP e s).took (s.cost 0xE8#8))

end Sys2Proof.Machine
end

