-- ==== Sys2Proof/Machine/Alu8.lean ====
section
/-! DEFINITION. The meanings of the 8-bit arithmetic and logic (spec/42_alu8.md R190 to R220). -/

namespace Sys2Proof.Machine

/-- `(A, fZ, fN, fH, fC) <- function(A, b)`, A not written by CP (R191 to R215). -/
def aluA (op : AluOp) (src : Source) (s : State) : State :=
  let b := s.readSource src
  let r := aluFunction op b.2.a b.1 b.2.fC
  let s1 := if op = .cp then b.2 else b.2.setReg .a r.res
  s1.setFlags r.z r.n r.h r.c

/-- INC r and INC (HL): one read, then one write of the same place; Carry not written (R216, R217). -/
def increment (t : Target) (s : State) : State :=
  let v := s.readTarget t
  let r := inc8 v.1 v.2.fC
  (v.2.writeTarget t r.res).setFlags r.z r.n r.h r.c

/-- DEC r and DEC (HL): one read, then one write of the same place; Carry not written (R218, R219). -/
def decrement (t : Target) (s : State) : State :=
  let v := s.readTarget t
  let r := dec8 v.1 v.2.fC
  (v.2.writeTarget t r.res).setFlags r.z r.n r.h r.c

/-- `INC B` (R216). -/
def execInc_B (s : State) : Result := .next ((increment (.reg .b) s).took (s.cost 0x04#8))

/-- `DEC B` (R218). -/
def execDec_B (s : State) : Result := .next ((decrement (.reg .b) s).took (s.cost 0x05#8))

/-- `INC C` (R216). -/
def execInc_C (s : State) : Result := .next ((increment (.reg .c) s).took (s.cost 0x0C#8))

/-- `DEC C` (R218). -/
def execDec_C (s : State) : Result := .next ((decrement (.reg .c) s).took (s.cost 0x0D#8))

/-- `INC D` (R216). -/
def execInc_D (s : State) : Result := .next ((increment (.reg .d) s).took (s.cost 0x14#8))

/-- `DEC D` (R218). -/
def execDec_D (s : State) : Result := .next ((decrement (.reg .d) s).took (s.cost 0x15#8))

/-- `INC E` (R216). -/
def execInc_E (s : State) : Result := .next ((increment (.reg .e) s).took (s.cost 0x1C#8))

/-- `DEC E` (R218). -/
def execDec_E (s : State) : Result := .next ((decrement (.reg .e) s).took (s.cost 0x1D#8))

/-- `INC H` (R216). -/
def execInc_H (s : State) : Result := .next ((increment (.reg .h) s).took (s.cost 0x24#8))

/-- `DEC H` (R218). -/
def execDec_H (s : State) : Result := .next ((decrement (.reg .h) s).took (s.cost 0x25#8))

/-- `INC L` (R216). -/
def execInc_L (s : State) : Result := .next ((increment (.reg .l) s).took (s.cost 0x2C#8))

/-- `DEC L` (R218). -/
def execDec_L (s : State) : Result := .next ((decrement (.reg .l) s).took (s.cost 0x2D#8))

/-- `INC (HL)` (R217). -/
def execInc_atHL (s : State) : Result := .next ((increment .atHL s).took (s.cost 0x34#8))

/-- `DEC (HL)` (R219). -/
def execDec_atHL (s : State) : Result := .next ((decrement .atHL s).took (s.cost 0x35#8))

/-- `INC A` (R216). -/
def execInc_A (s : State) : Result := .next ((increment (.reg .a) s).took (s.cost 0x3C#8))

/-- `DEC A` (R218). -/
def execDec_A (s : State) : Result := .next ((decrement (.reg .a) s).took (s.cost 0x3D#8))

/-- `ADD A,B` (R192). -/
def execAdd_A_B (s : State) : Result := .next ((aluA .add (.reg .b) s).took (s.cost 0x80#8))

/-- `ADD A,C` (R192). -/
def execAdd_A_C (s : State) : Result := .next ((aluA .add (.reg .c) s).took (s.cost 0x81#8))

/-- `ADD A,D` (R192). -/
def execAdd_A_D (s : State) : Result := .next ((aluA .add (.reg .d) s).took (s.cost 0x82#8))

/-- `ADD A,E` (R192). -/
def execAdd_A_E (s : State) : Result := .next ((aluA .add (.reg .e) s).took (s.cost 0x83#8))

/-- `ADD A,H` (R192). -/
def execAdd_A_H (s : State) : Result := .next ((aluA .add (.reg .h) s).took (s.cost 0x84#8))

/-- `ADD A,L` (R192). -/
def execAdd_A_L (s : State) : Result := .next ((aluA .add (.reg .l) s).took (s.cost 0x85#8))

/-- `ADD A,(HL)` (R193). -/
def execAdd_A_atHL (s : State) : Result := .next ((aluA .add .atHL s).took (s.cost 0x86#8))

/-- `ADD A,A` (R192). -/
def execAdd_A_A (s : State) : Result := .next ((aluA .add (.reg .a) s).took (s.cost 0x87#8))

/-- `ADC A,B` (R195). -/
def execAdc_A_B (s : State) : Result := .next ((aluA .adc (.reg .b) s).took (s.cost 0x88#8))

/-- `ADC A,C` (R195). -/
def execAdc_A_C (s : State) : Result := .next ((aluA .adc (.reg .c) s).took (s.cost 0x89#8))

/-- `ADC A,D` (R195). -/
def execAdc_A_D (s : State) : Result := .next ((aluA .adc (.reg .d) s).took (s.cost 0x8A#8))

/-- `ADC A,E` (R195). -/
def execAdc_A_E (s : State) : Result := .next ((aluA .adc (.reg .e) s).took (s.cost 0x8B#8))

/-- `ADC A,H` (R195). -/
def execAdc_A_H (s : State) : Result := .next ((aluA .adc (.reg .h) s).took (s.cost 0x8C#8))

/-- `ADC A,L` (R195). -/
def execAdc_A_L (s : State) : Result := .next ((aluA .adc (.reg .l) s).took (s.cost 0x8D#8))

/-- `ADC A,(HL)` (R196). -/
def execAdc_A_atHL (s : State) : Result := .next ((aluA .adc .atHL s).took (s.cost 0x8E#8))

/-- `ADC A,A` (R195). -/
def execAdc_A_A (s : State) : Result := .next ((aluA .adc (.reg .a) s).took (s.cost 0x8F#8))

/-- `SUB B` (R198). -/
def execSub_B (s : State) : Result := .next ((aluA .sub (.reg .b) s).took (s.cost 0x90#8))

/-- `SUB C` (R198). -/
def execSub_C (s : State) : Result := .next ((aluA .sub (.reg .c) s).took (s.cost 0x91#8))

/-- `SUB D` (R198). -/
def execSub_D (s : State) : Result := .next ((aluA .sub (.reg .d) s).took (s.cost 0x92#8))

/-- `SUB E` (R198). -/
def execSub_E (s : State) : Result := .next ((aluA .sub (.reg .e) s).took (s.cost 0x93#8))

/-- `SUB H` (R198). -/
def execSub_H (s : State) : Result := .next ((aluA .sub (.reg .h) s).took (s.cost 0x94#8))

/-- `SUB L` (R198). -/
def execSub_L (s : State) : Result := .next ((aluA .sub (.reg .l) s).took (s.cost 0x95#8))

/-- `SUB (HL)` (R199). -/
def execSub_atHL (s : State) : Result := .next ((aluA .sub .atHL s).took (s.cost 0x96#8))

/-- `SUB A` (R198). -/
def execSub_A (s : State) : Result := .next ((aluA .sub (.reg .a) s).took (s.cost 0x97#8))

/-- `SBC A,B` (R201). -/
def execSbc_A_B (s : State) : Result := .next ((aluA .sbc (.reg .b) s).took (s.cost 0x98#8))

/-- `SBC A,C` (R201). -/
def execSbc_A_C (s : State) : Result := .next ((aluA .sbc (.reg .c) s).took (s.cost 0x99#8))

/-- `SBC A,D` (R201). -/
def execSbc_A_D (s : State) : Result := .next ((aluA .sbc (.reg .d) s).took (s.cost 0x9A#8))

/-- `SBC A,E` (R201). -/
def execSbc_A_E (s : State) : Result := .next ((aluA .sbc (.reg .e) s).took (s.cost 0x9B#8))

/-- `SBC A,H` (R201). -/
def execSbc_A_H (s : State) : Result := .next ((aluA .sbc (.reg .h) s).took (s.cost 0x9C#8))

/-- `SBC A,L` (R201). -/
def execSbc_A_L (s : State) : Result := .next ((aluA .sbc (.reg .l) s).took (s.cost 0x9D#8))

/-- `SBC A,(HL)` (R202). -/
def execSbc_A_atHL (s : State) : Result := .next ((aluA .sbc .atHL s).took (s.cost 0x9E#8))

/-- `SBC A,A` (R201). -/
def execSbc_A_A (s : State) : Result := .next ((aluA .sbc (.reg .a) s).took (s.cost 0x9F#8))

/-- `AND B` (R204). -/
def execAnd_B (s : State) : Result := .next ((aluA .and (.reg .b) s).took (s.cost 0xA0#8))

/-- `AND C` (R204). -/
def execAnd_C (s : State) : Result := .next ((aluA .and (.reg .c) s).took (s.cost 0xA1#8))

/-- `AND D` (R204). -/
def execAnd_D (s : State) : Result := .next ((aluA .and (.reg .d) s).took (s.cost 0xA2#8))

/-- `AND E` (R204). -/
def execAnd_E (s : State) : Result := .next ((aluA .and (.reg .e) s).took (s.cost 0xA3#8))

/-- `AND H` (R204). -/
def execAnd_H (s : State) : Result := .next ((aluA .and (.reg .h) s).took (s.cost 0xA4#8))

/-- `AND L` (R204). -/
def execAnd_L (s : State) : Result := .next ((aluA .and (.reg .l) s).took (s.cost 0xA5#8))

/-- `AND (HL)` (R205). -/
def execAnd_atHL (s : State) : Result := .next ((aluA .and .atHL s).took (s.cost 0xA6#8))

/-- `AND A` (R204). -/
def execAnd_A (s : State) : Result := .next ((aluA .and (.reg .a) s).took (s.cost 0xA7#8))

/-- `XOR B` (R207). -/
def execXor_B (s : State) : Result := .next ((aluA .xor (.reg .b) s).took (s.cost 0xA8#8))

/-- `XOR C` (R207). -/
def execXor_C (s : State) : Result := .next ((aluA .xor (.reg .c) s).took (s.cost 0xA9#8))

/-- `XOR D` (R207). -/
def execXor_D (s : State) : Result := .next ((aluA .xor (.reg .d) s).took (s.cost 0xAA#8))

/-- `XOR E` (R207). -/
def execXor_E (s : State) : Result := .next ((aluA .xor (.reg .e) s).took (s.cost 0xAB#8))

/-- `XOR H` (R207). -/
def execXor_H (s : State) : Result := .next ((aluA .xor (.reg .h) s).took (s.cost 0xAC#8))

/-- `XOR L` (R207). -/
def execXor_L (s : State) : Result := .next ((aluA .xor (.reg .l) s).took (s.cost 0xAD#8))

/-- `XOR (HL)` (R208). -/
def execXor_atHL (s : State) : Result := .next ((aluA .xor .atHL s).took (s.cost 0xAE#8))

/-- `XOR A` (R207). -/
def execXor_A (s : State) : Result := .next ((aluA .xor (.reg .a) s).took (s.cost 0xAF#8))

/-- `OR B` (R210). -/
def execOr_B (s : State) : Result := .next ((aluA .or (.reg .b) s).took (s.cost 0xB0#8))

/-- `OR C` (R210). -/
def execOr_C (s : State) : Result := .next ((aluA .or (.reg .c) s).took (s.cost 0xB1#8))

/-- `OR D` (R210). -/
def execOr_D (s : State) : Result := .next ((aluA .or (.reg .d) s).took (s.cost 0xB2#8))

/-- `OR E` (R210). -/
def execOr_E (s : State) : Result := .next ((aluA .or (.reg .e) s).took (s.cost 0xB3#8))

/-- `OR H` (R210). -/
def execOr_H (s : State) : Result := .next ((aluA .or (.reg .h) s).took (s.cost 0xB4#8))

/-- `OR L` (R210). -/
def execOr_L (s : State) : Result := .next ((aluA .or (.reg .l) s).took (s.cost 0xB5#8))

/-- `OR (HL)` (R211). -/
def execOr_atHL (s : State) : Result := .next ((aluA .or .atHL s).took (s.cost 0xB6#8))

/-- `OR A` (R210). -/
def execOr_A (s : State) : Result := .next ((aluA .or (.reg .a) s).took (s.cost 0xB7#8))

/-- `CP B` (R213). -/
def execCp_B (s : State) : Result := .next ((aluA .cp (.reg .b) s).took (s.cost 0xB8#8))

/-- `CP C` (R213). -/
def execCp_C (s : State) : Result := .next ((aluA .cp (.reg .c) s).took (s.cost 0xB9#8))

/-- `CP D` (R213). -/
def execCp_D (s : State) : Result := .next ((aluA .cp (.reg .d) s).took (s.cost 0xBA#8))

/-- `CP E` (R213). -/
def execCp_E (s : State) : Result := .next ((aluA .cp (.reg .e) s).took (s.cost 0xBB#8))

/-- `CP H` (R213). -/
def execCp_H (s : State) : Result := .next ((aluA .cp (.reg .h) s).took (s.cost 0xBC#8))

/-- `CP L` (R213). -/
def execCp_L (s : State) : Result := .next ((aluA .cp (.reg .l) s).took (s.cost 0xBD#8))

/-- `CP (HL)` (R214). -/
def execCp_atHL (s : State) : Result := .next ((aluA .cp .atHL s).took (s.cost 0xBE#8))

/-- `CP A` (R213). -/
def execCp_A (s : State) : Result := .next ((aluA .cp (.reg .a) s).took (s.cost 0xBF#8))

/-- `ADD A,n` (R194). -/
def execAdd_A_n (n : Byte) (s : State) : Result := .next ((aluA .add (.imm n) s).took (s.cost 0xC6#8))

/-- `ADC A,n` (R197). -/
def execAdc_A_n (n : Byte) (s : State) : Result := .next ((aluA .adc (.imm n) s).took (s.cost 0xCE#8))

/-- `SUB n` (R200). -/
def execSub_n (n : Byte) (s : State) : Result := .next ((aluA .sub (.imm n) s).took (s.cost 0xD6#8))

/-- `SBC A,n` (R203). -/
def execSbc_A_n (n : Byte) (s : State) : Result := .next ((aluA .sbc (.imm n) s).took (s.cost 0xDE#8))

/-- `AND n` (R206). -/
def execAnd_n (n : Byte) (s : State) : Result := .next ((aluA .and (.imm n) s).took (s.cost 0xE6#8))

/-- `XOR n` (R209). -/
def execXor_n (n : Byte) (s : State) : Result := .next ((aluA .xor (.imm n) s).took (s.cost 0xEE#8))

/-- `OR n` (R212). -/
def execOr_n (n : Byte) (s : State) : Result := .next ((aluA .or (.imm n) s).took (s.cost 0xF6#8))

/-- `CP n` (R215). -/
def execCp_n (n : Byte) (s : State) : Result := .next ((aluA .cp (.imm n) s).took (s.cost 0xFE#8))

end Sys2Proof.Machine
end

