-- ==== Sys2Proof/Machine/CallReturn.lean ====
section
/-! DEFINITION. The meanings of the calls, restarts and returns (spec/45_jump_call_return.md R286 to R301). PC is already the return address
(spec/30_encoding.md R92). -/

namespace Sys2Proof.Machine

/-- `Push16(PC); PC <- target` (R286, R300). -/
def callTo (target : Word) (s : State) : State := (s.push16 s.pc).jump target

/-- `CALL cc,nn`: no stack access when it is not taken (R280, R287). -/
def callIf (cc : Cond) (target : Word) (op : Byte) (s : State) : State :=
  if s.cond cc then (callTo target s).took (s.takenCost op) else s.took (s.cost op)

/-- `PC <- Pop16()` (R288). -/
def returnTo (s : State) : State :=
  let popped := s.pop16
  popped.2.jump popped.1

/-- `RET cc`: no stack access when it is not taken (R280, R289). -/
def returnIf (cc : Cond) (op : Byte) (s : State) : State :=
  if s.cond cc then (returnTo s).took (s.takenCost op) else s.took (s.cost op)

/-- `RET NZ` (R289). -/
def execRet_NZ (s : State) : Result := .next (returnIf .nz 0xC0#8 s)

/-- `CALL NZ,nn` (R287). -/
def execCall_NZ_nn (nn : Word) (s : State) : Result := .next (callIf .nz nn 0xC4#8 s)

/-- `RST 00` (R300). -/
def execRst_00 (s : State) : Result := .next ((callTo 0x0000#16 s).took (s.cost 0xC7#8))

/-- `RET Z` (R289). -/
def execRet_Z (s : State) : Result := .next (returnIf .z 0xC8#8 s)

/-- `RET` (R288). -/
def execRet (s : State) : Result := .next ((returnTo s).took (s.cost 0xC9#8))

/-- `CALL Z,nn` (R287). -/
def execCall_Z_nn (nn : Word) (s : State) : Result := .next (callIf .z nn 0xCC#8 s)

/-- `CALL nn` (R286). -/
def execCall_nn (nn : Word) (s : State) : Result := .next ((callTo nn s).took (s.cost 0xCD#8))

/-- `RST 08` (R300). -/
def execRst_08 (s : State) : Result := .next ((callTo 0x0008#16 s).took (s.cost 0xCF#8))

/-- `RET NC` (R289). -/
def execRet_NC (s : State) : Result := .next (returnIf .nc 0xD0#8 s)

/-- `CALL NC,nn` (R287). -/
def execCall_NC_nn (nn : Word) (s : State) : Result := .next (callIf .nc nn 0xD4#8 s)

/-- `RST 10` (R300). -/
def execRst_10 (s : State) : Result := .next ((callTo 0x0010#16 s).took (s.cost 0xD7#8))

/-- `RET C` (R289). -/
def execRet_C (s : State) : Result := .next (returnIf .c 0xD8#8 s)

/-- `RETI` (R290). -/
def execReti (s : State) : Result := .next (s.returnFromInterrupt.took (s.cost 0xD9#8))

/-- `CALL C,nn` (R287). -/
def execCall_C_nn (nn : Word) (s : State) : Result := .next (callIf .c nn 0xDC#8 s)

/-- `RST 18` (R300). -/
def execRst_18 (s : State) : Result := .next ((callTo 0x0018#16 s).took (s.cost 0xDF#8))

/-- `RST 20` (R300). -/
def execRst_20 (s : State) : Result := .next ((callTo 0x0020#16 s).took (s.cost 0xE7#8))

/-- `RST 28` (R300). -/
def execRst_28 (s : State) : Result := .next ((callTo 0x0028#16 s).took (s.cost 0xEF#8))

/-- `RST 30` (R300). -/
def execRst_30 (s : State) : Result := .next ((callTo 0x0030#16 s).took (s.cost 0xF7#8))

/-- `RST 38` (R300). -/
def execRst_38 (s : State) : Result := .next ((callTo 0x0038#16 s).took (s.cost 0xFF#8))

end Sys2Proof.Machine
end

