-- ==== Sys2Proof/Machine/Invalid.lean ====
section
/-! DEFINITION. The meanings of the eleven invalid opcodes (spec/47_invalid.md R330): each takes the exception IllegalOpcode with its own byte
and the address it was fetched from. Its length is 1, so that address is PC - 1. -/

namespace Sys2Proof.Machine

/-- `INVALID` (R330). -/
def execInvalid_D3 (s : State) : Result := .next (s.raiseIllegalOpcode 0xD3#8 (s.pc - 1))

/-- `INVALID` (R330). -/
def execInvalid_DB (s : State) : Result := .next (s.raiseIllegalOpcode 0xDB#8 (s.pc - 1))

/-- `INVALID` (R330). -/
def execInvalid_DD (s : State) : Result := .next (s.raiseIllegalOpcode 0xDD#8 (s.pc - 1))

/-- `INVALID` (R330). -/
def execInvalid_E3 (s : State) : Result := .next (s.raiseIllegalOpcode 0xE3#8 (s.pc - 1))

/-- `INVALID` (R330). -/
def execInvalid_E4 (s : State) : Result := .next (s.raiseIllegalOpcode 0xE4#8 (s.pc - 1))

/-- `INVALID` (R330). -/
def execInvalid_EB (s : State) : Result := .next (s.raiseIllegalOpcode 0xEB#8 (s.pc - 1))

/-- `INVALID` (R330). -/
def execInvalid_EC (s : State) : Result := .next (s.raiseIllegalOpcode 0xEC#8 (s.pc - 1))

/-- `INVALID` (R330). -/
def execInvalid_ED (s : State) : Result := .next (s.raiseIllegalOpcode 0xED#8 (s.pc - 1))

/-- `INVALID` (R330). -/
def execInvalid_F4 (s : State) : Result := .next (s.raiseIllegalOpcode 0xF4#8 (s.pc - 1))

/-- `INVALID` (R330). -/
def execInvalid_FC (s : State) : Result := .next (s.raiseIllegalOpcode 0xFC#8 (s.pc - 1))

/-- `INVALID` (R330). -/
def execInvalid_FD (s : State) : Result := .next (s.raiseIllegalOpcode 0xFD#8 (s.pc - 1))

end Sys2Proof.Machine
end

