-- ==== Sys2Proof/Machine/Jump.lean ====
section
/-! DEFINITION. The meanings of the jumps (spec/45_jump_call_return.md R280 to R285): no flag is written, every 16-bit value is a target. -/

namespace Sys2Proof.Machine

/-- The conditional jump of an opcode: the taken cost when it is taken, PC left behind the instruction when it is not
(R280, R282, R285). -/
def jumpIf (cc : Cond) (target : Word) (op : Byte) (s : State) : State :=
  if s.cond cc then (s.jump target).took (s.takenCost op) else s.took (s.cost op)

/-- `JR e` (R284). -/
def execJr_e (e : Byte) (s : State) : Result := .next ((s.jump (s.pc + sext16 e)).took (s.cost 0x18#8))

/-- `JR NZ,e` (R285). -/
def execJr_NZ_e (e : Byte) (s : State) : Result := .next (jumpIf .nz (s.pc + sext16 e) 0x20#8 s)

/-- `JR Z,e` (R285). -/
def execJr_Z_e (e : Byte) (s : State) : Result := .next (jumpIf .z (s.pc + sext16 e) 0x28#8 s)

/-- `JR NC,e` (R285). -/
def execJr_NC_e (e : Byte) (s : State) : Result := .next (jumpIf .nc (s.pc + sext16 e) 0x30#8 s)

/-- `JR C,e` (R285). -/
def execJr_C_e (e : Byte) (s : State) : Result := .next (jumpIf .c (s.pc + sext16 e) 0x38#8 s)

/-- `JP NZ,nn` (R282). -/
def execJp_NZ_nn (nn : Word) (s : State) : Result := .next (jumpIf .nz nn 0xC2#8 s)

/-- `JP nn` (R281). -/
def execJp_nn (nn : Word) (s : State) : Result := .next ((s.jump nn).took (s.cost 0xC3#8))

/-- `JP Z,nn` (R282). -/
def execJp_Z_nn (nn : Word) (s : State) : Result := .next (jumpIf .z nn 0xCA#8 s)

/-- `JP NC,nn` (R282). -/
def execJp_NC_nn (nn : Word) (s : State) : Result := .next (jumpIf .nc nn 0xD2#8 s)

/-- `JP C,nn` (R282). -/
def execJp_C_nn (nn : Word) (s : State) : Result := .next (jumpIf .c nn 0xDA#8 s)

/-- `JP HL` (R283). -/
def execJp_HL (s : State) : Result := .next ((s.jump s.hl).took (s.cost 0xE9#8))

end Sys2Proof.Machine
end

