-- ==== Sys2Proof/Machine/Load16.lean ====
section
/-! DEFINITION. The meanings of the 16-bit loads and stack instructions (spec/41_load16_stack.md R170 to R182). -/

namespace Sys2Proof.Machine

/-- `rr <- nn` (R171). -/
def loadPair (dst : Pair) (nn : Word) (s : State) : State := s.setPair dst nn

/-- `LD HL,SP+e` (R177): the flags from the unsigned addition of SP's low byte and the raw byte. -/
def loadHLFromSPPlus (e : Byte) (s : State) : State :=
  (s.setHL (s.sp + sext16 e)).setFlags false false (spPlusHalf s.sp e) (spPlusCarry s.sp e)

/-- `Push16(qq)` (R179). -/
def pushPair (p : StackPair) (s : State) : State := s.push16 (s.stackPair p)

/-- `qq <- Pop16()` (R180, R181). -/
def popPair (p : StackPair) (s : State) : State :=
  let popped := s.pop16
  popped.2.setStackPair p popped.1

/-- `LD BC,nn` (R171). -/
def execLd_BC_nn (nn : Word) (s : State) : Result := .next ((loadPair .bc nn s).took (s.cost 0x01#8))

/-- `LD (nn),SP` (R172). -/
def execLd_atNN_SP (nn : Word) (s : State) : Result := .next ((s.busWrite16 nn s.sp).took (s.cost 0x08#8))

/-- `LD DE,nn` (R171). -/
def execLd_DE_nn (nn : Word) (s : State) : Result := .next ((loadPair .de nn s).took (s.cost 0x11#8))

/-- `LD HL,nn` (R171). -/
def execLd_HL_nn (nn : Word) (s : State) : Result := .next ((loadPair .hl nn s).took (s.cost 0x21#8))

/-- `LD SP,nn` (R171). -/
def execLd_SP_nn (nn : Word) (s : State) : Result := .next ((loadPair .sp nn s).took (s.cost 0x31#8))

/-- `POP BC` (R181). -/
def execPop_BC (s : State) : Result := .next ((popPair .bc s).took (s.cost 0xC1#8))

/-- `PUSH BC` (R179). -/
def execPush_BC (s : State) : Result := .next ((pushPair .bc s).took (s.cost 0xC5#8))

/-- `POP DE` (R181). -/
def execPop_DE (s : State) : Result := .next ((popPair .de s).took (s.cost 0xD1#8))

/-- `PUSH DE` (R179). -/
def execPush_DE (s : State) : Result := .next ((pushPair .de s).took (s.cost 0xD5#8))

/-- `POP HL` (R181). -/
def execPop_HL (s : State) : Result := .next ((popPair .hl s).took (s.cost 0xE1#8))

/-- `PUSH HL` (R179). -/
def execPush_HL (s : State) : Result := .next ((pushPair .hl s).took (s.cost 0xE5#8))

/-- `POP AF` (R180). -/
def execPop_AF (s : State) : Result := .next ((popPair .af s).took (s.cost 0xF1#8))

/-- `PUSH AF` (R179). -/
def execPush_AF (s : State) : Result := .next ((pushPair .af s).took (s.cost 0xF5#8))

/-- `LD HL,SP+e` (R177). -/
def execLd_HL_SPe (e : Byte) (s : State) : Result := .next ((loadHLFromSPPlus e s).took (s.cost 0xF8#8))

/-- `LD SP,HL` (R173). -/
def execLd_SP_HL (s : State) : Result := .next ((s.setSP s.hl).took (s.cost 0xF9#8))

end Sys2Proof.Machine
end

