-- ==== Sys2Proof/Machine/Load8.lean ====
section
/-! DEFINITION. The meanings of the 8-bit loads (spec/40_load8.md R130 to R151): a byte moves unchanged, no flag is written, PC already stands
behind the instruction (spec/30_encoding.md R92). -/

namespace Sys2Proof.Machine

/-- `r[y] <- r[z]` (R131). -/
def loadReg (dst src : Reg) (s : State) : State := s.setReg dst (s.reg src)

/-- `r[y] <- n` (R132). -/
def loadImm (dst : Reg) (n : Byte) (s : State) : State := s.setReg dst n

/-- `r <- MemRead(addr,1)` (R133, R136, R137, R140, R148, R150). -/
def loadFrom (dst : Reg) (addr : Word) (s : State) : State :=
  let got := s.busRead addr
  got.2.setReg dst got.1

/-- `MemWrite(addr,1,v)` (R134, R135, R138, R139, R141, R147, R149). -/
def storeTo (addr : Word) (v : Byte) (s : State) : State := s.busWrite addr v

/-- `A <- MemRead(HL,1); HL <- HL + step` with step 1 or -1, modulo 2^16 (R143, R145). -/
def loadAndMove (step : Word) (s : State) : State :=
  let got := s.busRead s.hl
  (got.2.setReg .a got.1).setHL (got.2.hl + step)

/-- `MemWrite(HL,1,A); HL <- HL + step` with step 1 or -1, modulo 2^16 (R142, R144). -/
def storeAndMove (step : Word) (s : State) : State :=
  let s1 := s.busWrite s.hl s.a
  s1.setHL (s1.hl + step)

/-- `LD (BC),A` (R138). -/
def execLd_atBC_A (s : State) : Result := .next ((storeTo s.bc s.a s).took (s.cost 0x02#8))

/-- `LD B,n` (R132). -/
def execLd_B_n (n : Byte) (s : State) : Result := .next ((loadImm .b n s).took (s.cost 0x06#8))

/-- `LD A,(BC)` (R136). -/
def execLd_A_atBC (s : State) : Result := .next ((loadFrom .a s.bc s).took (s.cost 0x0A#8))

/-- `LD C,n` (R132). -/
def execLd_C_n (n : Byte) (s : State) : Result := .next ((loadImm .c n s).took (s.cost 0x0E#8))

/-- `LD (DE),A` (R139). -/
def execLd_atDE_A (s : State) : Result := .next ((storeTo s.de s.a s).took (s.cost 0x12#8))

/-- `LD D,n` (R132). -/
def execLd_D_n (n : Byte) (s : State) : Result := .next ((loadImm .d n s).took (s.cost 0x16#8))

/-- `LD A,(DE)` (R137). -/
def execLd_A_atDE (s : State) : Result := .next ((loadFrom .a s.de s).took (s.cost 0x1A#8))

/-- `LD E,n` (R132). -/
def execLd_E_n (n : Byte) (s : State) : Result := .next ((loadImm .e n s).took (s.cost 0x1E#8))

/-- `LD (HL+),A` (R142). -/
def execLd_atHLinc_A (s : State) : Result := .next ((storeAndMove 1 s).took (s.cost 0x22#8))

/-- `LD H,n` (R132). -/
def execLd_H_n (n : Byte) (s : State) : Result := .next ((loadImm .h n s).took (s.cost 0x26#8))

/-- `LD A,(HL+)` (R143). -/
def execLd_A_atHLinc (s : State) : Result := .next ((loadAndMove 1 s).took (s.cost 0x2A#8))

/-- `LD L,n` (R132). -/
def execLd_L_n (n : Byte) (s : State) : Result := .next ((loadImm .l n s).took (s.cost 0x2E#8))

/-- `LD (HL-),A` (R144). -/
def execLd_atHLdec_A (s : State) : Result := .next ((storeAndMove (-1) s).took (s.cost 0x32#8))

/-- `LD (HL),n` (R135). -/
def execLd_atHL_n (n : Byte) (s : State) : Result := .next ((storeTo s.hl n s).took (s.cost 0x36#8))

/-- `LD A,(HL-)` (R145). -/
def execLd_A_atHLdec (s : State) : Result := .next ((loadAndMove (-1) s).took (s.cost 0x3A#8))

/-- `LD A,n` (R132). -/
def execLd_A_n (n : Byte) (s : State) : Result := .next ((loadImm .a n s).took (s.cost 0x3E#8))

/-- `LD B,B` (R131). -/
def execLd_B_B (s : State) : Result := .next ((loadReg .b .b s).took (s.cost 0x40#8))

/-- `LD B,C` (R131). -/
def execLd_B_C (s : State) : Result := .next ((loadReg .b .c s).took (s.cost 0x41#8))

/-- `LD B,D` (R131). -/
def execLd_B_D (s : State) : Result := .next ((loadReg .b .d s).took (s.cost 0x42#8))

/-- `LD B,E` (R131). -/
def execLd_B_E (s : State) : Result := .next ((loadReg .b .e s).took (s.cost 0x43#8))

/-- `LD B,H` (R131). -/
def execLd_B_H (s : State) : Result := .next ((loadReg .b .h s).took (s.cost 0x44#8))

/-- `LD B,L` (R131). -/
def execLd_B_L (s : State) : Result := .next ((loadReg .b .l s).took (s.cost 0x45#8))

/-- `LD B,(HL)` (R133). -/
def execLd_B_atHL (s : State) : Result := .next ((loadFrom .b s.hl s).took (s.cost 0x46#8))

/-- `LD B,A` (R131). -/
def execLd_B_A (s : State) : Result := .next ((loadReg .b .a s).took (s.cost 0x47#8))

/-- `LD C,B` (R131). -/
def execLd_C_B (s : State) : Result := .next ((loadReg .c .b s).took (s.cost 0x48#8))

/-- `LD C,C` (R131). -/
def execLd_C_C (s : State) : Result := .next ((loadReg .c .c s).took (s.cost 0x49#8))

/-- `LD C,D` (R131). -/
def execLd_C_D (s : State) : Result := .next ((loadReg .c .d s).took (s.cost 0x4A#8))

/-- `LD C,E` (R131). -/
def execLd_C_E (s : State) : Result := .next ((loadReg .c .e s).took (s.cost 0x4B#8))

/-- `LD C,H` (R131). -/
def execLd_C_H (s : State) : Result := .next ((loadReg .c .h s).took (s.cost 0x4C#8))

/-- `LD C,L` (R131). -/
def execLd_C_L (s : State) : Result := .next ((loadReg .c .l s).took (s.cost 0x4D#8))

/-- `LD C,(HL)` (R133). -/
def execLd_C_atHL (s : State) : Result := .next ((loadFrom .c s.hl s).took (s.cost 0x4E#8))

/-- `LD C,A` (R131). -/
def execLd_C_A (s : State) : Result := .next ((loadReg .c .a s).took (s.cost 0x4F#8))

/-- `LD D,B` (R131). -/
def execLd_D_B (s : State) : Result := .next ((loadReg .d .b s).took (s.cost 0x50#8))

/-- `LD D,C` (R131). -/
def execLd_D_C (s : State) : Result := .next ((loadReg .d .c s).took (s.cost 0x51#8))

/-- `LD D,D` (R131). -/
def execLd_D_D (s : State) : Result := .next ((loadReg .d .d s).took (s.cost 0x52#8))

/-- `LD D,E` (R131). -/
def execLd_D_E (s : State) : Result := .next ((loadReg .d .e s).took (s.cost 0x53#8))

/-- `LD D,H` (R131). -/
def execLd_D_H (s : State) : Result := .next ((loadReg .d .h s).took (s.cost 0x54#8))

/-- `LD D,L` (R131). -/
def execLd_D_L (s : State) : Result := .next ((loadReg .d .l s).took (s.cost 0x55#8))

/-- `LD D,(HL)` (R133). -/
def execLd_D_atHL (s : State) : Result := .next ((loadFrom .d s.hl s).took (s.cost 0x56#8))

/-- `LD D,A` (R131). -/
def execLd_D_A (s : State) : Result := .next ((loadReg .d .a s).took (s.cost 0x57#8))

/-- `LD E,B` (R131). -/
def execLd_E_B (s : State) : Result := .next ((loadReg .e .b s).took (s.cost 0x58#8))

/-- `LD E,C` (R131). -/
def execLd_E_C (s : State) : Result := .next ((loadReg .e .c s).took (s.cost 0x59#8))

/-- `LD E,D` (R131). -/
def execLd_E_D (s : State) : Result := .next ((loadReg .e .d s).took (s.cost 0x5A#8))

/-- `LD E,E` (R131). -/
def execLd_E_E (s : State) : Result := .next ((loadReg .e .e s).took (s.cost 0x5B#8))

/-- `LD E,H` (R131). -/
def execLd_E_H (s : State) : Result := .next ((loadReg .e .h s).took (s.cost 0x5C#8))

/-- `LD E,L` (R131). -/
def execLd_E_L (s : State) : Result := .next ((loadReg .e .l s).took (s.cost 0x5D#8))

/-- `LD E,(HL)` (R133). -/
def execLd_E_atHL (s : State) : Result := .next ((loadFrom .e s.hl s).took (s.cost 0x5E#8))

/-- `LD E,A` (R131). -/
def execLd_E_A (s : State) : Result := .next ((loadReg .e .a s).took (s.cost 0x5F#8))

/-- `LD H,B` (R131). -/
def execLd_H_B (s : State) : Result := .next ((loadReg .h .b s).took (s.cost 0x60#8))

/-- `LD H,C` (R131). -/
def execLd_H_C (s : State) : Result := .next ((loadReg .h .c s).took (s.cost 0x61#8))

/-- `LD H,D` (R131). -/
def execLd_H_D (s : State) : Result := .next ((loadReg .h .d s).took (s.cost 0x62#8))

/-- `LD H,E` (R131). -/
def execLd_H_E (s : State) : Result := .next ((loadReg .h .e s).took (s.cost 0x63#8))

/-- `LD H,H` (R131). -/
def execLd_H_H (s : State) : Result := .next ((loadReg .h .h s).took (s.cost 0x64#8))

/-- `LD H,L` (R131). -/
def execLd_H_L (s : State) : Result := .next ((loadReg .h .l s).took (s.cost 0x65#8))

/-- `LD H,(HL)` (R133). -/
def execLd_H_atHL (s : State) : Result := .next ((loadFrom .h s.hl s).took (s.cost 0x66#8))

/-- `LD H,A` (R131). -/
def execLd_H_A (s : State) : Result := .next ((loadReg .h .a s).took (s.cost 0x67#8))

/-- `LD L,B` (R131). -/
def execLd_L_B (s : State) : Result := .next ((loadReg .l .b s).took (s.cost 0x68#8))

/-- `LD L,C` (R131). -/
def execLd_L_C (s : State) : Result := .next ((loadReg .l .c s).took (s.cost 0x69#8))

/-- `LD L,D` (R131). -/
def execLd_L_D (s : State) : Result := .next ((loadReg .l .d s).took (s.cost 0x6A#8))

/-- `LD L,E` (R131). -/
def execLd_L_E (s : State) : Result := .next ((loadReg .l .e s).took (s.cost 0x6B#8))

/-- `LD L,H` (R131). -/
def execLd_L_H (s : State) : Result := .next ((loadReg .l .h s).took (s.cost 0x6C#8))

/-- `LD L,L` (R131). -/
def execLd_L_L (s : State) : Result := .next ((loadReg .l .l s).took (s.cost 0x6D#8))

/-- `LD L,(HL)` (R133). -/
def execLd_L_atHL (s : State) : Result := .next ((loadFrom .l s.hl s).took (s.cost 0x6E#8))

/-- `LD L,A` (R131). -/
def execLd_L_A (s : State) : Result := .next ((loadReg .l .a s).took (s.cost 0x6F#8))

/-- `LD (HL),B` (R134). -/
def execLd_atHL_B (s : State) : Result := .next ((storeTo s.hl s.b s).took (s.cost 0x70#8))

/-- `LD (HL),C` (R134). -/
def execLd_atHL_C (s : State) : Result := .next ((storeTo s.hl s.c s).took (s.cost 0x71#8))

/-- `LD (HL),D` (R134). -/
def execLd_atHL_D (s : State) : Result := .next ((storeTo s.hl s.d s).took (s.cost 0x72#8))

/-- `LD (HL),E` (R134). -/
def execLd_atHL_E (s : State) : Result := .next ((storeTo s.hl s.e s).took (s.cost 0x73#8))

/-- `LD (HL),H` (R134). -/
def execLd_atHL_H (s : State) : Result := .next ((storeTo s.hl s.h s).took (s.cost 0x74#8))

/-- `LD (HL),L` (R134). -/
def execLd_atHL_L (s : State) : Result := .next ((storeTo s.hl s.l s).took (s.cost 0x75#8))

/-- `LD (HL),A` (R134). -/
def execLd_atHL_A (s : State) : Result := .next ((storeTo s.hl s.a s).took (s.cost 0x77#8))

/-- `LD A,B` (R131). -/
def execLd_A_B (s : State) : Result := .next ((loadReg .a .b s).took (s.cost 0x78#8))

/-- `LD A,C` (R131). -/
def execLd_A_C (s : State) : Result := .next ((loadReg .a .c s).took (s.cost 0x79#8))

/-- `LD A,D` (R131). -/
def execLd_A_D (s : State) : Result := .next ((loadReg .a .d s).took (s.cost 0x7A#8))

/-- `LD A,E` (R131). -/
def execLd_A_E (s : State) : Result := .next ((loadReg .a .e s).took (s.cost 0x7B#8))

/-- `LD A,H` (R131). -/
def execLd_A_H (s : State) : Result := .next ((loadReg .a .h s).took (s.cost 0x7C#8))

/-- `LD A,L` (R131). -/
def execLd_A_L (s : State) : Result := .next ((loadReg .a .l s).took (s.cost 0x7D#8))

/-- `LD A,(HL)` (R133). -/
def execLd_A_atHL (s : State) : Result := .next ((loadFrom .a s.hl s).took (s.cost 0x7E#8))

/-- `LD A,A` (R131). -/
def execLd_A_A (s : State) : Result := .next ((loadReg .a .a s).took (s.cost 0x7F#8))

/-- `LDH (n),A` (R147). -/
def execLdh_atN_A (n : Byte) (s : State) : Result := .next ((storeTo (highPage n) s.a s).took (s.cost 0xE0#8))

/-- `LD (C),A` (R149). -/
def execLd_atC_A (s : State) : Result := .next ((storeTo (highPage s.c) s.a s).took (s.cost 0xE2#8))

/-- `LD (nn),A` (R141). -/
def execLd_atNN_A (nn : Word) (s : State) : Result := .next ((storeTo nn s.a s).took (s.cost 0xEA#8))

/-- `LDH A,(n)` (R148). -/
def execLdh_A_atN (n : Byte) (s : State) : Result := .next ((loadFrom .a (highPage n) s).took (s.cost 0xF0#8))

/-- `LD A,(C)` (R150). -/
def execLd_A_atC (s : State) : Result := .next ((loadFrom .a (highPage s.c) s).took (s.cost 0xF2#8))

/-- `LD A,(nn)` (R140). -/
def execLd_A_atNN (nn : Word) (s : State) : Result := .next ((loadFrom .a nn s).took (s.cost 0xFA#8))

end Sys2Proof.Machine
end

