-- ==== Sys2Proof/Machine/Misc.lean ====
section
/-! DEFINITION. The meanings of NOP, HALT, STOP, DI, EI, DAA, CPL, SCF, CCF (spec/46_misc.md R310 to R319). What a step does in Halted and
Stopped, and when a pending EI takes effect, is Machine/Control.lean. -/

namespace Sys2Proof.Machine

/-- `DAA` (R316); Subtract is not written. -/
def decimalAdjust (s : State) : State :=
  let r := daa8 s.a s.fN s.fH s.fC
  (s.setReg .a r.res).setFlags r.z r.n r.h r.c

/-- `CPL`: A complemented, Subtract and Half-Carry set, Zero and Carry left (R317). -/
def complementA (s : State) : State :=
  (s.setReg .a (s.a ^^^ 0xFF#8)).setFlags s.fZ true true s.fC

/-- `NOP` (R310). -/
def execNop (s : State) : Result := .next (s.took (s.cost 0x00#8))

/-- `STOP` (R312). -/
def execStop (_n : Option Byte) (s : State) : Result := .next (State.took { s with mode := .stopped } (s.cost 0x10#8))

/-- `DAA` (R316). -/
def execDaa (s : State) : Result := .next ((decimalAdjust s).took (s.cost 0x27#8))

/-- `CPL` (R317). -/
def execCpl (s : State) : Result := .next ((complementA s).took (s.cost 0x2F#8))

/-- `SCF` (R318). -/
def execScf (s : State) : Result := .next ((s.setFlags s.fZ false false true).took (s.cost 0x37#8))

/-- `CCF` (R319). -/
def execCcf (s : State) : Result := .next ((s.setFlags s.fZ false false (!s.fC)).took (s.cost 0x3F#8))

/-- `HALT` (R311). -/
def execHalt (s : State) : Result := .next (State.took { s with mode := .halted } (s.cost 0x76#8))

/-- `DI` (R313). -/
def execDi (s : State) : Result := .next (State.took { s with ime := false, imePending := false } (s.cost 0xF3#8))

/-- `EI` (R314). -/
def execEi (s : State) : Result := .next (State.took { s with imePending := true } (s.cost 0xFB#8))

end Sys2Proof.Machine
end

