-- ==== Sys2Proof/Machine/RotateShift.lean ====
section
/-! DEFINITION. The meanings of the rotates, shifts and SWAP (spec/44_rotate_shift_bitop.md R240 to R261). -/

namespace Sys2Proof.Machine

/-- The accumulator rotates: Zero, Subtract and Half-Carry cleared, Carry the bit shifted out (R241 to R244). -/
def rotateA (op : RotOp) (s : State) : State :=
  let r := rotFunction op s.a s.fC
  (s.setReg .a r.1).setFlags false false false r.2

/-- The extended rotates and shifts on a register or on the byte at HL, one read and then one write (R245 to R261). -/
def rotate (op : RotOp) (t : Target) (s : State) : State :=
  let v := s.readTarget t
  let r := rotFunction op v.1 v.2.fC
  (v.2.writeTarget t r.1).setFlags (r.1 == 0#8) false false r.2

/-- `RLCA` (R241). -/
def execRlca (s : State) : Result := .next ((rotateA .rlc s).took (s.cost 0x07#8))

/-- `RRCA` (R243). -/
def execRrca (s : State) : Result := .next ((rotateA .rrc s).took (s.cost 0x0F#8))

/-- `RLA` (R242). -/
def execRla (s : State) : Result := .next ((rotateA .rl s).took (s.cost 0x17#8))

/-- `RRA` (R244). -/
def execRra (s : State) : Result := .next ((rotateA .rr s).took (s.cost 0x1F#8))

/-- `RLC B` (R246). -/
def execRlc_B (s : State) : Result := .next ((rotate .rlc (.reg .b) s).took (s.extendedCost 0x00#8))

/-- `RLC C` (R246). -/
def execRlc_C (s : State) : Result := .next ((rotate .rlc (.reg .c) s).took (s.extendedCost 0x01#8))

/-- `RLC D` (R246). -/
def execRlc_D (s : State) : Result := .next ((rotate .rlc (.reg .d) s).took (s.extendedCost 0x02#8))

/-- `RLC E` (R246). -/
def execRlc_E (s : State) : Result := .next ((rotate .rlc (.reg .e) s).took (s.extendedCost 0x03#8))

/-- `RLC H` (R246). -/
def execRlc_H (s : State) : Result := .next ((rotate .rlc (.reg .h) s).took (s.extendedCost 0x04#8))

/-- `RLC L` (R246). -/
def execRlc_L (s : State) : Result := .next ((rotate .rlc (.reg .l) s).took (s.extendedCost 0x05#8))

/-- `RLC (HL)` (R247). -/
def execRlc_atHL (s : State) : Result := .next ((rotate .rlc .atHL s).took (s.extendedCost 0x06#8))

/-- `RLC A` (R246). -/
def execRlc_A (s : State) : Result := .next ((rotate .rlc (.reg .a) s).took (s.extendedCost 0x07#8))

/-- `RRC B` (R248). -/
def execRrc_B (s : State) : Result := .next ((rotate .rrc (.reg .b) s).took (s.extendedCost 0x08#8))

/-- `RRC C` (R248). -/
def execRrc_C (s : State) : Result := .next ((rotate .rrc (.reg .c) s).took (s.extendedCost 0x09#8))

/-- `RRC D` (R248). -/
def execRrc_D (s : State) : Result := .next ((rotate .rrc (.reg .d) s).took (s.extendedCost 0x0A#8))

/-- `RRC E` (R248). -/
def execRrc_E (s : State) : Result := .next ((rotate .rrc (.reg .e) s).took (s.extendedCost 0x0B#8))

/-- `RRC H` (R248). -/
def execRrc_H (s : State) : Result := .next ((rotate .rrc (.reg .h) s).took (s.extendedCost 0x0C#8))

/-- `RRC L` (R248). -/
def execRrc_L (s : State) : Result := .next ((rotate .rrc (.reg .l) s).took (s.extendedCost 0x0D#8))

/-- `RRC (HL)` (R249). -/
def execRrc_atHL (s : State) : Result := .next ((rotate .rrc .atHL s).took (s.extendedCost 0x0E#8))

/-- `RRC A` (R248). -/
def execRrc_A (s : State) : Result := .next ((rotate .rrc (.reg .a) s).took (s.extendedCost 0x0F#8))

/-- `RL B` (R250). -/
def execRl_B (s : State) : Result := .next ((rotate .rl (.reg .b) s).took (s.extendedCost 0x10#8))

/-- `RL C` (R250). -/
def execRl_C (s : State) : Result := .next ((rotate .rl (.reg .c) s).took (s.extendedCost 0x11#8))

/-- `RL D` (R250). -/
def execRl_D (s : State) : Result := .next ((rotate .rl (.reg .d) s).took (s.extendedCost 0x12#8))

/-- `RL E` (R250). -/
def execRl_E (s : State) : Result := .next ((rotate .rl (.reg .e) s).took (s.extendedCost 0x13#8))

/-- `RL H` (R250). -/
def execRl_H (s : State) : Result := .next ((rotate .rl (.reg .h) s).took (s.extendedCost 0x14#8))

/-- `RL L` (R250). -/
def execRl_L (s : State) : Result := .next ((rotate .rl (.reg .l) s).took (s.extendedCost 0x15#8))

/-- `RL (HL)` (R251). -/
def execRl_atHL (s : State) : Result := .next ((rotate .rl .atHL s).took (s.extendedCost 0x16#8))

/-- `RL A` (R250). -/
def execRl_A (s : State) : Result := .next ((rotate .rl (.reg .a) s).took (s.extendedCost 0x17#8))

/-- `RR B` (R252). -/
def execRr_B (s : State) : Result := .next ((rotate .rr (.reg .b) s).took (s.extendedCost 0x18#8))

/-- `RR C` (R252). -/
def execRr_C (s : State) : Result := .next ((rotate .rr (.reg .c) s).took (s.extendedCost 0x19#8))

/-- `RR D` (R252). -/
def execRr_D (s : State) : Result := .next ((rotate .rr (.reg .d) s).took (s.extendedCost 0x1A#8))

/-- `RR E` (R252). -/
def execRr_E (s : State) : Result := .next ((rotate .rr (.reg .e) s).took (s.extendedCost 0x1B#8))

/-- `RR H` (R252). -/
def execRr_H (s : State) : Result := .next ((rotate .rr (.reg .h) s).took (s.extendedCost 0x1C#8))

/-- `RR L` (R252). -/
def execRr_L (s : State) : Result := .next ((rotate .rr (.reg .l) s).took (s.extendedCost 0x1D#8))

/-- `RR (HL)` (R253). -/
def execRr_atHL (s : State) : Result := .next ((rotate .rr .atHL s).took (s.extendedCost 0x1E#8))

/-- `RR A` (R252). -/
def execRr_A (s : State) : Result := .next ((rotate .rr (.reg .a) s).took (s.extendedCost 0x1F#8))

/-- `SLA B` (R254). -/
def execSla_B (s : State) : Result := .next ((rotate .sla (.reg .b) s).took (s.extendedCost 0x20#8))

/-- `SLA C` (R254). -/
def execSla_C (s : State) : Result := .next ((rotate .sla (.reg .c) s).took (s.extendedCost 0x21#8))

/-- `SLA D` (R254). -/
def execSla_D (s : State) : Result := .next ((rotate .sla (.reg .d) s).took (s.extendedCost 0x22#8))

/-- `SLA E` (R254). -/
def execSla_E (s : State) : Result := .next ((rotate .sla (.reg .e) s).took (s.extendedCost 0x23#8))

/-- `SLA H` (R254). -/
def execSla_H (s : State) : Result := .next ((rotate .sla (.reg .h) s).took (s.extendedCost 0x24#8))

/-- `SLA L` (R254). -/
def execSla_L (s : State) : Result := .next ((rotate .sla (.reg .l) s).took (s.extendedCost 0x25#8))

/-- `SLA (HL)` (R255). -/
def execSla_atHL (s : State) : Result := .next ((rotate .sla .atHL s).took (s.extendedCost 0x26#8))

/-- `SLA A` (R254). -/
def execSla_A (s : State) : Result := .next ((rotate .sla (.reg .a) s).took (s.extendedCost 0x27#8))

/-- `SRA B` (R256). -/
def execSra_B (s : State) : Result := .next ((rotate .sra (.reg .b) s).took (s.extendedCost 0x28#8))

/-- `SRA C` (R256). -/
def execSra_C (s : State) : Result := .next ((rotate .sra (.reg .c) s).took (s.extendedCost 0x29#8))

/-- `SRA D` (R256). -/
def execSra_D (s : State) : Result := .next ((rotate .sra (.reg .d) s).took (s.extendedCost 0x2A#8))

/-- `SRA E` (R256). -/
def execSra_E (s : State) : Result := .next ((rotate .sra (.reg .e) s).took (s.extendedCost 0x2B#8))

/-- `SRA H` (R256). -/
def execSra_H (s : State) : Result := .next ((rotate .sra (.reg .h) s).took (s.extendedCost 0x2C#8))

/-- `SRA L` (R256). -/
def execSra_L (s : State) : Result := .next ((rotate .sra (.reg .l) s).took (s.extendedCost 0x2D#8))

/-- `SRA (HL)` (R257). -/
def execSra_atHL (s : State) : Result := .next ((rotate .sra .atHL s).took (s.extendedCost 0x2E#8))

/-- `SRA A` (R256). -/
def execSra_A (s : State) : Result := .next ((rotate .sra (.reg .a) s).took (s.extendedCost 0x2F#8))

/-- `SWAP B` (R260). -/
def execSwap_B (s : State) : Result := .next ((rotate .swap (.reg .b) s).took (s.extendedCost 0x30#8))

/-- `SWAP C` (R260). -/
def execSwap_C (s : State) : Result := .next ((rotate .swap (.reg .c) s).took (s.extendedCost 0x31#8))

/-- `SWAP D` (R260). -/
def execSwap_D (s : State) : Result := .next ((rotate .swap (.reg .d) s).took (s.extendedCost 0x32#8))

/-- `SWAP E` (R260). -/
def execSwap_E (s : State) : Result := .next ((rotate .swap (.reg .e) s).took (s.extendedCost 0x33#8))

/-- `SWAP H` (R260). -/
def execSwap_H (s : State) : Result := .next ((rotate .swap (.reg .h) s).took (s.extendedCost 0x34#8))

/-- `SWAP L` (R260). -/
def execSwap_L (s : State) : Result := .next ((rotate .swap (.reg .l) s).took (s.extendedCost 0x35#8))

/-- `SWAP (HL)` (R261). -/
def execSwap_atHL (s : State) : Result := .next ((rotate .swap .atHL s).took (s.extendedCost 0x36#8))

/-- `SWAP A` (R260). -/
def execSwap_A (s : State) : Result := .next ((rotate .swap (.reg .a) s).took (s.extendedCost 0x37#8))

/-- `SRL B` (R258). -/
def execSrl_B (s : State) : Result := .next ((rotate .srl (.reg .b) s).took (s.extendedCost 0x38#8))

/-- `SRL C` (R258). -/
def execSrl_C (s : State) : Result := .next ((rotate .srl (.reg .c) s).took (s.extendedCost 0x39#8))

/-- `SRL D` (R258). -/
def execSrl_D (s : State) : Result := .next ((rotate .srl (.reg .d) s).took (s.extendedCost 0x3A#8))

/-- `SRL E` (R258). -/
def execSrl_E (s : State) : Result := .next ((rotate .srl (.reg .e) s).took (s.extendedCost 0x3B#8))

/-- `SRL H` (R258). -/
def execSrl_H (s : State) : Result := .next ((rotate .srl (.reg .h) s).took (s.extendedCost 0x3C#8))

/-- `SRL L` (R258). -/
def execSrl_L (s : State) : Result := .next ((rotate .srl (.reg .l) s).took (s.extendedCost 0x3D#8))

/-- `SRL (HL)` (R259). -/
def execSrl_atHL (s : State) : Result := .next ((rotate .srl .atHL s).took (s.extendedCost 0x3E#8))

/-- `SRL A` (R258). -/
def execSrl_A (s : State) : Result := .next ((rotate .srl (.reg .a) s).took (s.extendedCost 0x3F#8))

end Sys2Proof.Machine
end

