-- ==== Sys2Proof/Machine/BitOp.lean ====
section
/-! DEFINITION. The meanings of the bit test, reset and set (spec/44_rotate_shift_bitop.md R262 to R267). -/

namespace Sys2Proof.Machine

/-- BIT: Zero is the complement of the bit, Carry is kept, the operand is not written (R262, R263). -/
def testBit (bit : Nat) (t : Target) (s : State) : State :=
  let v := s.readTarget t
  v.2.setFlags (!v.1.getLsbD bit) false true v.2.fC

/-- RES: `v & ~(1 << b)` written back, even when the bit was 0 already; no flag written (R264, R265). -/
def resetBit (bit : Nat) (t : Target) (s : State) : State :=
  let v := s.readTarget t
  v.2.writeTarget t (v.1 &&& ~~~(1#8 <<< bit))

/-- SET: `v | (1 << b)` written back, even when the bit was 1 already; no flag written (R266, R267). -/
def setBit (bit : Nat) (t : Target) (s : State) : State :=
  let v := s.readTarget t
  v.2.writeTarget t (v.1 ||| (1#8 <<< bit))

/-- `BIT 0,B` (R262). -/
def execBit_0_B (s : State) : Result := .next ((testBit 0 (.reg .b) s).took (s.extendedCost 0x40#8))

/-- `BIT 0,C` (R262). -/
def execBit_0_C (s : State) : Result := .next ((testBit 0 (.reg .c) s).took (s.extendedCost 0x41#8))

/-- `BIT 0,D` (R262). -/
def execBit_0_D (s : State) : Result := .next ((testBit 0 (.reg .d) s).took (s.extendedCost 0x42#8))

/-- `BIT 0,E` (R262). -/
def execBit_0_E (s : State) : Result := .next ((testBit 0 (.reg .e) s).took (s.extendedCost 0x43#8))

/-- `BIT 0,H` (R262). -/
def execBit_0_H (s : State) : Result := .next ((testBit 0 (.reg .h) s).took (s.extendedCost 0x44#8))

/-- `BIT 0,L` (R262). -/
def execBit_0_L (s : State) : Result := .next ((testBit 0 (.reg .l) s).took (s.extendedCost 0x45#8))

/-- `BIT 0,(HL)` (R263). -/
def execBit_0_atHL (s : State) : Result := .next ((testBit 0 .atHL s).took (s.extendedCost 0x46#8))

/-- `BIT 0,A` (R262). -/
def execBit_0_A (s : State) : Result := .next ((testBit 0 (.reg .a) s).took (s.extendedCost 0x47#8))

/-- `BIT 1,B` (R262). -/
def execBit_1_B (s : State) : Result := .next ((testBit 1 (.reg .b) s).took (s.extendedCost 0x48#8))

/-- `BIT 1,C` (R262). -/
def execBit_1_C (s : State) : Result := .next ((testBit 1 (.reg .c) s).took (s.extendedCost 0x49#8))

/-- `BIT 1,D` (R262). -/
def execBit_1_D (s : State) : Result := .next ((testBit 1 (.reg .d) s).took (s.extendedCost 0x4A#8))

/-- `BIT 1,E` (R262). -/
def execBit_1_E (s : State) : Result := .next ((testBit 1 (.reg .e) s).took (s.extendedCost 0x4B#8))

/-- `BIT 1,H` (R262). -/
def execBit_1_H (s : State) : Result := .next ((testBit 1 (.reg .h) s).took (s.extendedCost 0x4C#8))

/-- `BIT 1,L` (R262). -/
def execBit_1_L (s : State) : Result := .next ((testBit 1 (.reg .l) s).took (s.extendedCost 0x4D#8))

/-- `BIT 1,(HL)` (R263). -/
def execBit_1_atHL (s : State) : Result := .next ((testBit 1 .atHL s).took (s.extendedCost 0x4E#8))

/-- `BIT 1,A` (R262). -/
def execBit_1_A (s : State) : Result := .next ((testBit 1 (.reg .a) s).took (s.extendedCost 0x4F#8))

/-- `BIT 2,B` (R262). -/
def execBit_2_B (s : State) : Result := .next ((testBit 2 (.reg .b) s).took (s.extendedCost 0x50#8))

/-- `BIT 2,C` (R262). -/
def execBit_2_C (s : State) : Result := .next ((testBit 2 (.reg .c) s).took (s.extendedCost 0x51#8))

/-- `BIT 2,D` (R262). -/
def execBit_2_D (s : State) : Result := .next ((testBit 2 (.reg .d) s).took (s.extendedCost 0x52#8))

/-- `BIT 2,E` (R262). -/
def execBit_2_E (s : State) : Result := .next ((testBit 2 (.reg .e) s).took (s.extendedCost 0x53#8))

/-- `BIT 2,H` (R262). -/
def execBit_2_H (s : State) : Result := .next ((testBit 2 (.reg .h) s).took (s.extendedCost 0x54#8))

/-- `BIT 2,L` (R262). -/
def execBit_2_L (s : State) : Result := .next ((testBit 2 (.reg .l) s).took (s.extendedCost 0x55#8))

/-- `BIT 2,(HL)` (R263). -/
def execBit_2_atHL (s : State) : Result := .next ((testBit 2 .atHL s).took (s.extendedCost 0x56#8))

/-- `BIT 2,A` (R262). -/
def execBit_2_A (s : State) : Result := .next ((testBit 2 (.reg .a) s).took (s.extendedCost 0x57#8))

/-- `BIT 3,B` (R262). -/
def execBit_3_B (s : State) : Result := .next ((testBit 3 (.reg .b) s).took (s.extendedCost 0x58#8))

/-- `BIT 3,C` (R262). -/
def execBit_3_C (s : State) : Result := .next ((testBit 3 (.reg .c) s).took (s.extendedCost 0x59#8))

/-- `BIT 3,D` (R262). -/
def execBit_3_D (s : State) : Result := .next ((testBit 3 (.reg .d) s).took (s.extendedCost 0x5A#8))

/-- `BIT 3,E` (R262). -/
def execBit_3_E (s : State) : Result := .next ((testBit 3 (.reg .e) s).took (s.extendedCost 0x5B#8))

/-- `BIT 3,H` (R262). -/
def execBit_3_H (s : State) : Result := .next ((testBit 3 (.reg .h) s).took (s.extendedCost 0x5C#8))

/-- `BIT 3,L` (R262). -/
def execBit_3_L (s : State) : Result := .next ((testBit 3 (.reg .l) s).took (s.extendedCost 0x5D#8))

/-- `BIT 3,(HL)` (R263). -/
def execBit_3_atHL (s : State) : Result := .next ((testBit 3 .atHL s).took (s.extendedCost 0x5E#8))

/-- `BIT 3,A` (R262). -/
def execBit_3_A (s : State) : Result := .next ((testBit 3 (.reg .a) s).took (s.extendedCost 0x5F#8))

/-- `BIT 4,B` (R262). -/
def execBit_4_B (s : State) : Result := .next ((testBit 4 (.reg .b) s).took (s.extendedCost 0x60#8))

/-- `BIT 4,C` (R262). -/
def execBit_4_C (s : State) : Result := .next ((testBit 4 (.reg .c) s).took (s.extendedCost 0x61#8))

/-- `BIT 4,D` (R262). -/
def execBit_4_D (s : State) : Result := .next ((testBit 4 (.reg .d) s).took (s.extendedCost 0x62#8))

/-- `BIT 4,E` (R262). -/
def execBit_4_E (s : State) : Result := .next ((testBit 4 (.reg .e) s).took (s.extendedCost 0x63#8))

/-- `BIT 4,H` (R262). -/
def execBit_4_H (s : State) : Result := .next ((testBit 4 (.reg .h) s).took (s.extendedCost 0x64#8))

/-- `BIT 4,L` (R262). -/
def execBit_4_L (s : State) : Result := .next ((testBit 4 (.reg .l) s).took (s.extendedCost 0x65#8))

/-- `BIT 4,(HL)` (R263). -/
def execBit_4_atHL (s : State) : Result := .next ((testBit 4 .atHL s).took (s.extendedCost 0x66#8))

/-- `BIT 4,A` (R262). -/
def execBit_4_A (s : State) : Result := .next ((testBit 4 (.reg .a) s).took (s.extendedCost 0x67#8))

/-- `BIT 5,B` (R262). -/
def execBit_5_B (s : State) : Result := .next ((testBit 5 (.reg .b) s).took (s.extendedCost 0x68#8))

/-- `BIT 5,C` (R262). -/
def execBit_5_C (s : State) : Result := .next ((testBit 5 (.reg .c) s).took (s.extendedCost 0x69#8))

/-- `BIT 5,D` (R262). -/
def execBit_5_D (s : State) : Result := .next ((testBit 5 (.reg .d) s).took (s.extendedCost 0x6A#8))

/-- `BIT 5,E` (R262). -/
def execBit_5_E (s : State) : Result := .next ((testBit 5 (.reg .e) s).took (s.extendedCost 0x6B#8))

/-- `BIT 5,H` (R262). -/
def execBit_5_H (s : State) : Result := .next ((testBit 5 (.reg .h) s).took (s.extendedCost 0x6C#8))

/-- `BIT 5,L` (R262). -/
def execBit_5_L (s : State) : Result := .next ((testBit 5 (.reg .l) s).took (s.extendedCost 0x6D#8))

/-- `BIT 5,(HL)` (R263). -/
def execBit_5_atHL (s : State) : Result := .next ((testBit 5 .atHL s).took (s.extendedCost 0x6E#8))

/-- `BIT 5,A` (R262). -/
def execBit_5_A (s : State) : Result := .next ((testBit 5 (.reg .a) s).took (s.extendedCost 0x6F#8))

/-- `BIT 6,B` (R262). -/
def execBit_6_B (s : State) : Result := .next ((testBit 6 (.reg .b) s).took (s.extendedCost 0x70#8))

/-- `BIT 6,C` (R262). -/
def execBit_6_C (s : State) : Result := .next ((testBit 6 (.reg .c) s).took (s.extendedCost 0x71#8))

/-- `BIT 6,D` (R262). -/
def execBit_6_D (s : State) : Result := .next ((testBit 6 (.reg .d) s).took (s.extendedCost 0x72#8))

/-- `BIT 6,E` (R262). -/
def execBit_6_E (s : State) : Result := .next ((testBit 6 (.reg .e) s).took (s.extendedCost 0x73#8))

/-- `BIT 6,H` (R262). -/
def execBit_6_H (s : State) : Result := .next ((testBit 6 (.reg .h) s).took (s.extendedCost 0x74#8))

/-- `BIT 6,L` (R262). -/
def execBit_6_L (s : State) : Result := .next ((testBit 6 (.reg .l) s).took (s.extendedCost 0x75#8))

/-- `BIT 6,(HL)` (R263). -/
def execBit_6_atHL (s : State) : Result := .next ((testBit 6 .atHL s).took (s.extendedCost 0x76#8))

/-- `BIT 6,A` (R262). -/
def execBit_6_A (s : State) : Result := .next ((testBit 6 (.reg .a) s).took (s.extendedCost 0x77#8))

/-- `BIT 7,B` (R262). -/
def execBit_7_B (s : State) : Result := .next ((testBit 7 (.reg .b) s).took (s.extendedCost 0x78#8))

/-- `BIT 7,C` (R262). -/
def execBit_7_C (s : State) : Result := .next ((testBit 7 (.reg .c) s).took (s.extendedCost 0x79#8))

/-- `BIT 7,D` (R262). -/
def execBit_7_D (s : State) : Result := .next ((testBit 7 (.reg .d) s).took (s.extendedCost 0x7A#8))

/-- `BIT 7,E` (R262). -/
def execBit_7_E (s : State) : Result := .next ((testBit 7 (.reg .e) s).took (s.extendedCost 0x7B#8))

/-- `BIT 7,H` (R262). -/
def execBit_7_H (s : State) : Result := .next ((testBit 7 (.reg .h) s).took (s.extendedCost 0x7C#8))

/-- `BIT 7,L` (R262). -/
def execBit_7_L (s : State) : Result := .next ((testBit 7 (.reg .l) s).took (s.extendedCost 0x7D#8))

/-- `BIT 7,(HL)` (R263). -/
def execBit_7_atHL (s : State) : Result := .next ((testBit 7 .atHL s).took (s.extendedCost 0x7E#8))

/-- `BIT 7,A` (R262). -/
def execBit_7_A (s : State) : Result := .next ((testBit 7 (.reg .a) s).took (s.extendedCost 0x7F#8))

/-- `RES 0,B` (R264). -/
def execRes_0_B (s : State) : Result := .next ((resetBit 0 (.reg .b) s).took (s.extendedCost 0x80#8))

/-- `RES 0,C` (R264). -/
def execRes_0_C (s : State) : Result := .next ((resetBit 0 (.reg .c) s).took (s.extendedCost 0x81#8))

/-- `RES 0,D` (R264). -/
def execRes_0_D (s : State) : Result := .next ((resetBit 0 (.reg .d) s).took (s.extendedCost 0x82#8))

/-- `RES 0,E` (R264). -/
def execRes_0_E (s : State) : Result := .next ((resetBit 0 (.reg .e) s).took (s.extendedCost 0x83#8))

/-- `RES 0,H` (R264). -/
def execRes_0_H (s : State) : Result := .next ((resetBit 0 (.reg .h) s).took (s.extendedCost 0x84#8))

/-- `RES 0,L` (R264). -/
def execRes_0_L (s : State) : Result := .next ((resetBit 0 (.reg .l) s).took (s.extendedCost 0x85#8))

/-- `RES 0,(HL)` (R265). -/
def execRes_0_atHL (s : State) : Result := .next ((resetBit 0 .atHL s).took (s.extendedCost 0x86#8))

/-- `RES 0,A` (R264). -/
def execRes_0_A (s : State) : Result := .next ((resetBit 0 (.reg .a) s).took (s.extendedCost 0x87#8))

/-- `RES 1,B` (R264). -/
def execRes_1_B (s : State) : Result := .next ((resetBit 1 (.reg .b) s).took (s.extendedCost 0x88#8))

/-- `RES 1,C` (R264). -/
def execRes_1_C (s : State) : Result := .next ((resetBit 1 (.reg .c) s).took (s.extendedCost 0x89#8))

/-- `RES 1,D` (R264). -/
def execRes_1_D (s : State) : Result := .next ((resetBit 1 (.reg .d) s).took (s.extendedCost 0x8A#8))

/-- `RES 1,E` (R264). -/
def execRes_1_E (s : State) : Result := .next ((resetBit 1 (.reg .e) s).took (s.extendedCost 0x8B#8))

/-- `RES 1,H` (R264). -/
def execRes_1_H (s : State) : Result := .next ((resetBit 1 (.reg .h) s).took (s.extendedCost 0x8C#8))

/-- `RES 1,L` (R264). -/
def execRes_1_L (s : State) : Result := .next ((resetBit 1 (.reg .l) s).took (s.extendedCost 0x8D#8))

/-- `RES 1,(HL)` (R265). -/
def execRes_1_atHL (s : State) : Result := .next ((resetBit 1 .atHL s).took (s.extendedCost 0x8E#8))

/-- `RES 1,A` (R264). -/
def execRes_1_A (s : State) : Result := .next ((resetBit 1 (.reg .a) s).took (s.extendedCost 0x8F#8))

/-- `RES 2,B` (R264). -/
def execRes_2_B (s : State) : Result := .next ((resetBit 2 (.reg .b) s).took (s.extendedCost 0x90#8))

/-- `RES 2,C` (R264). -/
def execRes_2_C (s : State) : Result := .next ((resetBit 2 (.reg .c) s).took (s.extendedCost 0x91#8))

/-- `RES 2,D` (R264). -/
def execRes_2_D (s : State) : Result := .next ((resetBit 2 (.reg .d) s).took (s.extendedCost 0x92#8))

/-- `RES 2,E` (R264). -/
def execRes_2_E (s : State) : Result := .next ((resetBit 2 (.reg .e) s).took (s.extendedCost 0x93#8))

/-- `RES 2,H` (R264). -/
def execRes_2_H (s : State) : Result := .next ((resetBit 2 (.reg .h) s).took (s.extendedCost 0x94#8))

/-- `RES 2,L` (R264). -/
def execRes_2_L (s : State) : Result := .next ((resetBit 2 (.reg .l) s).took (s.extendedCost 0x95#8))

/-- `RES 2,(HL)` (R265). -/
def execRes_2_atHL (s : State) : Result := .next ((resetBit 2 .atHL s).took (s.extendedCost 0x96#8))

/-- `RES 2,A` (R264). -/
def execRes_2_A (s : State) : Result := .next ((resetBit 2 (.reg .a) s).took (s.extendedCost 0x97#8))

/-- `RES 3,B` (R264). -/
def execRes_3_B (s : State) : Result := .next ((resetBit 3 (.reg .b) s).took (s.extendedCost 0x98#8))

/-- `RES 3,C` (R264). -/
def execRes_3_C (s : State) : Result := .next ((resetBit 3 (.reg .c) s).took (s.extendedCost 0x99#8))

/-- `RES 3,D` (R264). -/
def execRes_3_D (s : State) : Result := .next ((resetBit 3 (.reg .d) s).took (s.extendedCost 0x9A#8))

/-- `RES 3,E` (R264). -/
def execRes_3_E (s : State) : Result := .next ((resetBit 3 (.reg .e) s).took (s.extendedCost 0x9B#8))

/-- `RES 3,H` (R264). -/
def execRes_3_H (s : State) : Result := .next ((resetBit 3 (.reg .h) s).took (s.extendedCost 0x9C#8))

/-- `RES 3,L` (R264). -/
def execRes_3_L (s : State) : Result := .next ((resetBit 3 (.reg .l) s).took (s.extendedCost 0x9D#8))

/-- `RES 3,(HL)` (R265). -/
def execRes_3_atHL (s : State) : Result := .next ((resetBit 3 .atHL s).took (s.extendedCost 0x9E#8))

/-- `RES 3,A` (R264). -/
def execRes_3_A (s : State) : Result := .next ((resetBit 3 (.reg .a) s).took (s.extendedCost 0x9F#8))

/-- `RES 4,B` (R264). -/
def execRes_4_B (s : State) : Result := .next ((resetBit 4 (.reg .b) s).took (s.extendedCost 0xA0#8))

/-- `RES 4,C` (R264). -/
def execRes_4_C (s : State) : Result := .next ((resetBit 4 (.reg .c) s).took (s.extendedCost 0xA1#8))

/-- `RES 4,D` (R264). -/
def execRes_4_D (s : State) : Result := .next ((resetBit 4 (.reg .d) s).took (s.extendedCost 0xA2#8))

/-- `RES 4,E` (R264). -/
def execRes_4_E (s : State) : Result := .next ((resetBit 4 (.reg .e) s).took (s.extendedCost 0xA3#8))

/-- `RES 4,H` (R264). -/
def execRes_4_H (s : State) : Result := .next ((resetBit 4 (.reg .h) s).took (s.extendedCost 0xA4#8))

/-- `RES 4,L` (R264). -/
def execRes_4_L (s : State) : Result := .next ((resetBit 4 (.reg .l) s).took (s.extendedCost 0xA5#8))

/-- `RES 4,(HL)` (R265). -/
def execRes_4_atHL (s : State) : Result := .next ((resetBit 4 .atHL s).took (s.extendedCost 0xA6#8))

/-- `RES 4,A` (R264). -/
def execRes_4_A (s : State) : Result := .next ((resetBit 4 (.reg .a) s).took (s.extendedCost 0xA7#8))

/-- `RES 5,B` (R264). -/
def execRes_5_B (s : State) : Result := .next ((resetBit 5 (.reg .b) s).took (s.extendedCost 0xA8#8))

/-- `RES 5,C` (R264). -/
def execRes_5_C (s : State) : Result := .next ((resetBit 5 (.reg .c) s).took (s.extendedCost 0xA9#8))

/-- `RES 5,D` (R264). -/
def execRes_5_D (s : State) : Result := .next ((resetBit 5 (.reg .d) s).took (s.extendedCost 0xAA#8))

/-- `RES 5,E` (R264). -/
def execRes_5_E (s : State) : Result := .next ((resetBit 5 (.reg .e) s).took (s.extendedCost 0xAB#8))

/-- `RES 5,H` (R264). -/
def execRes_5_H (s : State) : Result := .next ((resetBit 5 (.reg .h) s).took (s.extendedCost 0xAC#8))

/-- `RES 5,L` (R264). -/
def execRes_5_L (s : State) : Result := .next ((resetBit 5 (.reg .l) s).took (s.extendedCost 0xAD#8))

/-- `RES 5,(HL)` (R265). -/
def execRes_5_atHL (s : State) : Result := .next ((resetBit 5 .atHL s).took (s.extendedCost 0xAE#8))

/-- `RES 5,A` (R264). -/
def execRes_5_A (s : State) : Result := .next ((resetBit 5 (.reg .a) s).took (s.extendedCost 0xAF#8))

/-- `RES 6,B` (R264). -/
def execRes_6_B (s : State) : Result := .next ((resetBit 6 (.reg .b) s).took (s.extendedCost 0xB0#8))

/-- `RES 6,C` (R264). -/
def execRes_6_C (s : State) : Result := .next ((resetBit 6 (.reg .c) s).took (s.extendedCost 0xB1#8))

/-- `RES 6,D` (R264). -/
def execRes_6_D (s : State) : Result := .next ((resetBit 6 (.reg .d) s).took (s.extendedCost 0xB2#8))

/-- `RES 6,E` (R264). -/
def execRes_6_E (s : State) : Result := .next ((resetBit 6 (.reg .e) s).took (s.extendedCost 0xB3#8))

/-- `RES 6,H` (R264). -/
def execRes_6_H (s : State) : Result := .next ((resetBit 6 (.reg .h) s).took (s.extendedCost 0xB4#8))

/-- `RES 6,L` (R264). -/
def execRes_6_L (s : State) : Result := .next ((resetBit 6 (.reg .l) s).took (s.extendedCost 0xB5#8))

/-- `RES 6,(HL)` (R265). -/
def execRes_6_atHL (s : State) : Result := .next ((resetBit 6 .atHL s).took (s.extendedCost 0xB6#8))

/-- `RES 6,A` (R264). -/
def execRes_6_A (s : State) : Result := .next ((resetBit 6 (.reg .a) s).took (s.extendedCost 0xB7#8))

/-- `RES 7,B` (R264). -/
def execRes_7_B (s : State) : Result := .next ((resetBit 7 (.reg .b) s).took (s.extendedCost 0xB8#8))

/-- `RES 7,C` (R264). -/
def execRes_7_C (s : State) : Result := .next ((resetBit 7 (.reg .c) s).took (s.extendedCost 0xB9#8))

/-- `RES 7,D` (R264). -/
def execRes_7_D (s : State) : Result := .next ((resetBit 7 (.reg .d) s).took (s.extendedCost 0xBA#8))

/-- `RES 7,E` (R264). -/
def execRes_7_E (s : State) : Result := .next ((resetBit 7 (.reg .e) s).took (s.extendedCost 0xBB#8))

/-- `RES 7,H` (R264). -/
def execRes_7_H (s : State) : Result := .next ((resetBit 7 (.reg .h) s).took (s.extendedCost 0xBC#8))

/-- `RES 7,L` (R264). -/
def execRes_7_L (s : State) : Result := .next ((resetBit 7 (.reg .l) s).took (s.extendedCost 0xBD#8))

/-- `RES 7,(HL)` (R265). -/
def execRes_7_atHL (s : State) : Result := .next ((resetBit 7 .atHL s).took (s.extendedCost 0xBE#8))

/-- `RES 7,A` (R264). -/
def execRes_7_A (s : State) : Result := .next ((resetBit 7 (.reg .a) s).took (s.extendedCost 0xBF#8))

/-- `SET 0,B` (R266). -/
def execSet_0_B (s : State) : Result := .next ((setBit 0 (.reg .b) s).took (s.extendedCost 0xC0#8))

/-- `SET 0,C` (R266). -/
def execSet_0_C (s : State) : Result := .next ((setBit 0 (.reg .c) s).took (s.extendedCost 0xC1#8))

/-- `SET 0,D` (R266). -/
def execSet_0_D (s : State) : Result := .next ((setBit 0 (.reg .d) s).took (s.extendedCost 0xC2#8))

/-- `SET 0,E` (R266). -/
def execSet_0_E (s : State) : Result := .next ((setBit 0 (.reg .e) s).took (s.extendedCost 0xC3#8))

/-- `SET 0,H` (R266). -/
def execSet_0_H (s : State) : Result := .next ((setBit 0 (.reg .h) s).took (s.extendedCost 0xC4#8))

/-- `SET 0,L` (R266). -/
def execSet_0_L (s : State) : Result := .next ((setBit 0 (.reg .l) s).took (s.extendedCost 0xC5#8))

/-- `SET 0,(HL)` (R267). -/
def execSet_0_atHL (s : State) : Result := .next ((setBit 0 .atHL s).took (s.extendedCost 0xC6#8))

/-- `SET 0,A` (R266). -/
def execSet_0_A (s : State) : Result := .next ((setBit 0 (.reg .a) s).took (s.extendedCost 0xC7#8))

/-- `SET 1,B` (R266). -/
def execSet_1_B (s : State) : Result := .next ((setBit 1 (.reg .b) s).took (s.extendedCost 0xC8#8))

/-- `SET 1,C` (R266). -/
def execSet_1_C (s : State) : Result := .next ((setBit 1 (.reg .c) s).took (s.extendedCost 0xC9#8))

/-- `SET 1,D` (R266). -/
def execSet_1_D (s : State) : Result := .next ((setBit 1 (.reg .d) s).took (s.extendedCost 0xCA#8))

/-- `SET 1,E` (R266). -/
def execSet_1_E (s : State) : Result := .next ((setBit 1 (.reg .e) s).took (s.extendedCost 0xCB#8))

/-- `SET 1,H` (R266). -/
def execSet_1_H (s : State) : Result := .next ((setBit 1 (.reg .h) s).took (s.extendedCost 0xCC#8))

/-- `SET 1,L` (R266). -/
def execSet_1_L (s : State) : Result := .next ((setBit 1 (.reg .l) s).took (s.extendedCost 0xCD#8))

/-- `SET 1,(HL)` (R267). -/
def execSet_1_atHL (s : State) : Result := .next ((setBit 1 .atHL s).took (s.extendedCost 0xCE#8))

/-- `SET 1,A` (R266). -/
def execSet_1_A (s : State) : Result := .next ((setBit 1 (.reg .a) s).took (s.extendedCost 0xCF#8))

/-- `SET 2,B` (R266). -/
def execSet_2_B (s : State) : Result := .next ((setBit 2 (.reg .b) s).took (s.extendedCost 0xD0#8))

/-- `SET 2,C` (R266). -/
def execSet_2_C (s : State) : Result := .next ((setBit 2 (.reg .c) s).took (s.extendedCost 0xD1#8))

/-- `SET 2,D` (R266). -/
def execSet_2_D (s : State) : Result := .next ((setBit 2 (.reg .d) s).took (s.extendedCost 0xD2#8))

/-- `SET 2,E` (R266). -/
def execSet_2_E (s : State) : Result := .next ((setBit 2 (.reg .e) s).took (s.extendedCost 0xD3#8))

/-- `SET 2,H` (R266). -/
def execSet_2_H (s : State) : Result := .next ((setBit 2 (.reg .h) s).took (s.extendedCost 0xD4#8))

/-- `SET 2,L` (R266). -/
def execSet_2_L (s : State) : Result := .next ((setBit 2 (.reg .l) s).took (s.extendedCost 0xD5#8))

/-- `SET 2,(HL)` (R267). -/
def execSet_2_atHL (s : State) : Result := .next ((setBit 2 .atHL s).took (s.extendedCost 0xD6#8))

/-- `SET 2,A` (R266). -/
def execSet_2_A (s : State) : Result := .next ((setBit 2 (.reg .a) s).took (s.extendedCost 0xD7#8))

/-- `SET 3,B` (R266). -/
def execSet_3_B (s : State) : Result := .next ((setBit 3 (.reg .b) s).took (s.extendedCost 0xD8#8))

/-- `SET 3,C` (R266). -/
def execSet_3_C (s : State) : Result := .next ((setBit 3 (.reg .c) s).took (s.extendedCost 0xD9#8))

/-- `SET 3,D` (R266). -/
def execSet_3_D (s : State) : Result := .next ((setBit 3 (.reg .d) s).took (s.extendedCost 0xDA#8))

/-- `SET 3,E` (R266). -/
def execSet_3_E (s : State) : Result := .next ((setBit 3 (.reg .e) s).took (s.extendedCost 0xDB#8))

/-- `SET 3,H` (R266). -/
def execSet_3_H (s : State) : Result := .next ((setBit 3 (.reg .h) s).took (s.extendedCost 0xDC#8))

/-- `SET 3,L` (R266). -/
def execSet_3_L (s : State) : Result := .next ((setBit 3 (.reg .l) s).took (s.extendedCost 0xDD#8))

/-- `SET 3,(HL)` (R267). -/
def execSet_3_atHL (s : State) : Result := .next ((setBit 3 .atHL s).took (s.extendedCost 0xDE#8))

/-- `SET 3,A` (R266). -/
def execSet_3_A (s : State) : Result := .next ((setBit 3 (.reg .a) s).took (s.extendedCost 0xDF#8))

/-- `SET 4,B` (R266). -/
def execSet_4_B (s : State) : Result := .next ((setBit 4 (.reg .b) s).took (s.extendedCost 0xE0#8))

/-- `SET 4,C` (R266). -/
def execSet_4_C (s : State) : Result := .next ((setBit 4 (.reg .c) s).took (s.extendedCost 0xE1#8))

/-- `SET 4,D` (R266). -/
def execSet_4_D (s : State) : Result := .next ((setBit 4 (.reg .d) s).took (s.extendedCost 0xE2#8))

/-- `SET 4,E` (R266). -/
def execSet_4_E (s : State) : Result := .next ((setBit 4 (.reg .e) s).took (s.extendedCost 0xE3#8))

/-- `SET 4,H` (R266). -/
def execSet_4_H (s : State) : Result := .next ((setBit 4 (.reg .h) s).took (s.extendedCost 0xE4#8))

/-- `SET 4,L` (R266). -/
def execSet_4_L (s : State) : Result := .next ((setBit 4 (.reg .l) s).took (s.extendedCost 0xE5#8))

/-- `SET 4,(HL)` (R267). -/
def execSet_4_atHL (s : State) : Result := .next ((setBit 4 .atHL s).took (s.extendedCost 0xE6#8))

/-- `SET 4,A` (R266). -/
def execSet_4_A (s : State) : Result := .next ((setBit 4 (.reg .a) s).took (s.extendedCost 0xE7#8))

/-- `SET 5,B` (R266). -/
def execSet_5_B (s : State) : Result := .next ((setBit 5 (.reg .b) s).took (s.extendedCost 0xE8#8))

/-- `SET 5,C` (R266). -/
def execSet_5_C (s : State) : Result := .next ((setBit 5 (.reg .c) s).took (s.extendedCost 0xE9#8))

/-- `SET 5,D` (R266). -/
def execSet_5_D (s : State) : Result := .next ((setBit 5 (.reg .d) s).took (s.extendedCost 0xEA#8))

/-- `SET 5,E` (R266). -/
def execSet_5_E (s : State) : Result := .next ((setBit 5 (.reg .e) s).took (s.extendedCost 0xEB#8))

/-- `SET 5,H` (R266). -/
def execSet_5_H (s : State) : Result := .next ((setBit 5 (.reg .h) s).took (s.extendedCost 0xEC#8))

/-- `SET 5,L` (R266). -/
def execSet_5_L (s : State) : Result := .next ((setBit 5 (.reg .l) s).took (s.extendedCost 0xED#8))

/-- `SET 5,(HL)` (R267). -/
def execSet_5_atHL (s : State) : Result := .next ((setBit 5 .atHL s).took (s.extendedCost 0xEE#8))

/-- `SET 5,A` (R266). -/
def execSet_5_A (s : State) : Result := .next ((setBit 5 (.reg .a) s).took (s.extendedCost 0xEF#8))

/-- `SET 6,B` (R266). -/
def execSet_6_B (s : State) : Result := .next ((setBit 6 (.reg .b) s).took (s.extendedCost 0xF0#8))

/-- `SET 6,C` (R266). -/
def execSet_6_C (s : State) : Result := .next ((setBit 6 (.reg .c) s).took (s.extendedCost 0xF1#8))

/-- `SET 6,D` (R266). -/
def execSet_6_D (s : State) : Result := .next ((setBit 6 (.reg .d) s).took (s.extendedCost 0xF2#8))

/-- `SET 6,E` (R266). -/
def execSet_6_E (s : State) : Result := .next ((setBit 6 (.reg .e) s).took (s.extendedCost 0xF3#8))

/-- `SET 6,H` (R266). -/
def execSet_6_H (s : State) : Result := .next ((setBit 6 (.reg .h) s).took (s.extendedCost 0xF4#8))

/-- `SET 6,L` (R266). -/
def execSet_6_L (s : State) : Result := .next ((setBit 6 (.reg .l) s).took (s.extendedCost 0xF5#8))

/-- `SET 6,(HL)` (R267). -/
def execSet_6_atHL (s : State) : Result := .next ((setBit 6 .atHL s).took (s.extendedCost 0xF6#8))

/-- `SET 6,A` (R266). -/
def execSet_6_A (s : State) : Result := .next ((setBit 6 (.reg .a) s).took (s.extendedCost 0xF7#8))

/-- `SET 7,B` (R266). -/
def execSet_7_B (s : State) : Result := .next ((setBit 7 (.reg .b) s).took (s.extendedCost 0xF8#8))

/-- `SET 7,C` (R266). -/
def execSet_7_C (s : State) : Result := .next ((setBit 7 (.reg .c) s).took (s.extendedCost 0xF9#8))

/-- `SET 7,D` (R266). -/
def execSet_7_D (s : State) : Result := .next ((setBit 7 (.reg .d) s).took (s.extendedCost 0xFA#8))

/-- `SET 7,E` (R266). -/
def execSet_7_E (s : State) : Result := .next ((setBit 7 (.reg .e) s).took (s.extendedCost 0xFB#8))

/-- `SET 7,H` (R266). -/
def execSet_7_H (s : State) : Result := .next ((setBit 7 (.reg .h) s).took (s.extendedCost 0xFC#8))

/-- `SET 7,L` (R266). -/
def execSet_7_L (s : State) : Result := .next ((setBit 7 (.reg .l) s).took (s.extendedCost 0xFD#8))

/-- `SET 7,(HL)` (R267). -/
def execSet_7_atHL (s : State) : Result := .next ((setBit 7 .atHL s).took (s.extendedCost 0xFE#8))

/-- `SET 7,A` (R266). -/
def execSet_7_A (s : State) : Result := .next ((setBit 7 (.reg .a) s).took (s.extendedCost 0xFF#8))

end Sys2Proof.Machine
end

