-- ==== Sys2Proof/Machine/PrefixCb.lean ====
section
/-! DEFINITION. The meaning of the prefix 0xCB (spec/30_encoding.md R103). The primary entry "has no action of its own":
what runs is the extended table's entry of the second byte, found here by its fields x, y and z (R106). The decoder gives
that entry directly, so this constructor is never decoded (assumption 9). -/

namespace Sys2Proof.Machine

/-- The action of the extended entry of a byte (R106). -/
def extendedAction (op2 : Byte) (s : State) : State :=
  let t := targetOfCode (fieldZ op2)
  match (fieldX op2).toNat with
  | 0 => rotate (rotOfCode (fieldY op2)) t s
  | 1 => testBit (fieldY op2).toNat t s
  | 2 => resetBit (fieldY op2).toNat t s
  | _ => setBit (fieldY op2).toNat t s

/-- `PREFIX CB` (R103). -/
def execPrefix_CB (opcode2 : Byte) (s : State) : Result :=
  .next ((extendedAction opcode2 s).took (s.extendedCost opcode2))

end Sys2Proof.Machine
end

