-- ==== Sys2Proof/Machine/Step.lean ====
section
/-! DEFINITION. The step of spec/60_exceptions.md R340, and the placing of one instruction where the step fetches. -/

namespace Sys2Proof.Machine

/-- One instruction of a running core: lines c to 7 of R340. -/
def State.execute (s : State) : Host.Outcome State Fault Refusal :=
  let fetched := s.fetch
  match exec fetched.1 fetched.2 with
  | .next t => .next (t.settleIme s.imePending)
  | .fault r => .fault r
  | .refused r => .refused r

/-- What the outside presents between the steps, then `Step(irq)` (R340, R353). -/
def step (s : State) : Host.Outcome State Fault Refusal :=
  let x := s.stimulus
  let s0 := s.outside
  match s0.way x.irq with
  | .faulted r => .next (s0.reportFault r)
  | .idle => .next s0.idle
  | .dispatch => .next (s0.wake.dispatchIrq x.irqVector)
  | .execute => s0.wake.execute

/-- `s` with the instruction of a table word placed where the next step fetches it: its bytes at PC (three bytes, those
above `nbits` zero), and the core running, with no fault latched, a plain-array bus, STOP of its default length, and
nothing presented from outside (assumption 4). -/
def State.withFetchWord (s : State) (nbits w : Nat) : State :=
  let v := w % 2 ^ nbits
  let m1 := s.mem.write s.pc (BitVec.ofNat 8 v)
  let m2 := m1.write (s.pc + 1) (BitVec.ofNat 8 (v / 2 ^ 8))
  let m3 := m2.write (s.pc + 2) (BitVec.ofNat 8 (v / 2 ^ 16))
  { s with
    mem := m3, mode := .running, fault := none, inputs := []
    params := { s.params with bus := .plain, stopLength := Params.default.stopLength } }

end Sys2Proof.Machine
end

