-- ==== Sys2Proof/Safety.lean ====
section
/-! DEFINITION. The terms in which claims speak of a run: the invariant of the machine, the faulted and the quiescent
state (spec/70_reset_and_hazards.md R405), and the run that reaches no faulted state (spec/47_invalid.md R331). -/

namespace Sys2Proof.Machine

/-- F's low nibble is 0 (R22). -/
abbrev State.flagsClean (s : State) : Prop := s.f &&& 0x0F#8 = 0#8

/-- What holds at reset and is kept by every step: memory is in canonical form and F's low nibble is 0. -/
abbrev State.Inv (s : State) : Prop := s.mem.wf = true ∧ s.flagsClean

/-- No fault is latched. A state that is not safe is never a good end of a run (R331, R405). This looks at one state:
after a Reset that cleared a latched fault the state is safe again, so a claim about a run rests on `State.SafeRun`. -/
abbrev State.Safe (s : State) : Prop := s.fault = none

/-- R331: the run of `n` steps from `s` reaches no faulted state: `s`, and the state after each of the steps, is safe.
DESIGN CHOICE (assumption 14): the spec does not say whether Reset begins a new run; here it does not, so a run with a
latched fault that Reset clears counts as one that reaches the faulted state. -/
def State.SafeRun (s : State) : Nat → Prop
  | 0 => s.Safe
  | n + 1 => s.Safe ∧ ∃ t, step s = .next t ∧ t.SafeRun n

/-- R405(b): Halted or Stopped, no fault, and nothing is presented from outside any more. A claim that takes such a
state as the end of a run asks `State.SafeRun` of the run beside it (assumption 14). -/
abbrev State.Quiescent (s : State) : Prop := s.Safe ∧ s.mode ≠ .running ∧ s.inputs = []

end Sys2Proof.Machine
end

