-- ==== Sys2Proof/Certificates/Slice0/Obligations.lean ====
section
/-! DEFINITION. The statements for the provers. Each docstring names the rule of spec/ it formalises. Instructions are
named by their bytes as spec/30_encoding.md R105 and R106 give them, so a statement about an instruction also says that
those bytes, and no more, are that instruction. -/

open Sys2Proof Sys2Proof.Machine

namespace Sys2Proof.Claims

/-- The 3-bit code of a register (R96). -/
def code : Reg → BitVec 3
  | .b => 0
  | .c => 1
  | .d => 2
  | .e => 3
  | .h => 4
  | .l => 5
  | .a => 7

/-- The 2-bit code of an operand `rr` (R97). -/
def pairCode : Pair → BitVec 2
  | .bc => 0
  | .de => 1
  | .hl => 2
  | .sp => 3

/-- The 2-bit code of an operand `qq` (R97). -/
def stackCode : StackPair → BitVec 2
  | .bc => 0
  | .de => 1
  | .hl => 2
  | .af => 3

/-- The 2-bit code of a condition (R98). -/
def condCode : Cond → BitVec 2
  | .nz => 0
  | .z => 1
  | .nc => 2
  | .c => 3

/-- The 3-bit code o of `ALU[o]` (R105). -/
def aluCode : AluOp → BitVec 3
  | .add => 0
  | .adc => 1
  | .sub => 2
  | .sbc => 3
  | .and => 4
  | .xor => 5
  | .or => 6
  | .cp => 7

/-- The 3-bit code y of an extended rotate or shift (R106). -/
def rotCode : RotOp → BitVec 3
  | .rlc => 0
  | .rrc => 1
  | .rl => 2
  | .rr => 3
  | .sla => 4
  | .sra => 5
  | .swap => 6
  | .srl => 7

/-- The eleven invalid bytes (R107). -/
def invalidBytes : List Byte :=
  [0xD3#8, 0xDB#8, 0xDD#8, 0xE3#8, 0xE4#8, 0xEB#8, 0xEC#8, 0xED#8, 0xF4#8, 0xFC#8, 0xFD#8]

/-- The base cost of the instruction with the given bytes in a table of costs (R93, R400). -/
def baseCost (table : CycleTable) : List Byte → Nat
  | [] => 0
  | op :: rest => if op = 0xCB#8 then table.extendedOf (rest.headD 0x00#8) else table.baseOf op

/-- The cost of the conditional instruction with the given bytes when it is taken (R93, R400). -/
def takenCost (table : CycleTable) : List Byte → Nat
  | [] => 0
  | op :: _ => table.takenOf op

/-- The given bytes are one whole instruction under the parameters `p`, and from every state it answers the next state
`f` gives. -/
def Answers (p : Params) (bytes : List Byte) (f : State → State) : Prop :=
  ∃ i, decode p bytes = .ok i [] ∧ ∀ s, exec i s = .next (f s)

/-- The given bytes are one whole instruction under the parameters `p`; from every state it answers the next state `f`
gives and reports its base cost in the state's parameter CYCLES; and that cost is `n` in the table of R400, the default. -/
def RunsWith (p : Params) (bytes : List Byte) (n : Nat) (f : State → State) : Prop :=
  baseCost .standard bytes = n ∧ Answers p bytes fun s => (f s).took (baseCost s.params.cycles bytes)

/-- `RunsWith` under all parameters. -/
def Runs (bytes : List Byte) (n : Nat) (f : State → State) : Prop := ∀ p, RunsWith p bytes n f

/-- The given bytes are one whole conditional instruction: where its condition holds it answers the next state `f` gives
and reports its taken cost, elsewhere it changes nothing and reports its base cost; the two costs are `n` and `m` in the
table of R400. -/
def RunsIf (cc : Cond) (bytes : List Byte) (n m : Nat) (f : State → State) : Prop :=
  takenCost .standard bytes = n ∧ baseCost .standard bytes = m ∧ ∀ p, Answers p bytes fun s =>
    if s.cond cc = true then (f s).took (takenCost s.params.cycles bytes)
    else s.took (baseCost s.params.cycles bytes)

/-- The state after a read of one byte at an address the state gives, with the byte. -/
def withRead (addr : State → Word) (f : Byte → State → State) (s : State) : State :=
  f (s.busRead (addr s)).1 (s.busRead (addr s)).2

/-- A flag as a number. -/
def bit (c : Bool) : Nat := if c then 1 else 0

/-- The functions of R191 on natural numbers: the result and the flags Z, N, H, C. -/
def alu (op : AluOp) (a b c : Nat) : Nat × Bool × Bool × Bool × Bool :=
  match op with
  | .add => ((a + b) % 256, decide ((a + b) % 256 = 0), false, decide (a % 16 + b % 16 > 15), decide (a + b > 255))
  | .adc =>
    ((a + b + c) % 256, decide ((a + b + c) % 256 = 0), false, decide (a % 16 + b % 16 + c > 15),
      decide (a + b + c > 255))
  | .sub => ((256 + a - b) % 256, decide (a = b), true, decide (a % 16 < b % 16), decide (a < b))
  | .sbc =>
    ((512 + a - b - c) % 256, decide ((512 + a - b - c) % 256 = 0), true, decide (a % 16 < b % 16 + c),
      decide (a < b + c))
  | .and => (a &&& b, decide (a &&& b = 0), false, true, false)
  | .xor => (a ^^^ b, decide (a ^^^ b = 0), false, false, false)
  | .or => (a ||| b, decide (a ||| b = 0), false, false, false)
  | .cp => ((256 + a - b) % 256, decide (a = b), true, decide (a % 16 < b % 16), decide (a < b))

/-- What an ALU instruction does with its second operand `b`: A takes the result, except under CP, and the four flags
are written (R192 to R215). -/
def aluEffect (op : AluOp) (b : Byte) (s : State) : State :=
  let r := alu op s.a.toNat b.toNat (bit s.fC)
  (if op = .cp then s else s.setReg .a (BitVec.ofNat 8 r.1)).setFlags r.2.1 r.2.2.1 r.2.2.2.1 r.2.2.2.2

/-- The functions of R245 on natural numbers: the result and the bit shifted out. -/
def rot (op : RotOp) (v cin : Nat) : Nat × Nat :=
  match op with
  | .rlc => (v * 2 % 256 + v / 128, v / 128)
  | .rrc => (v / 2 + v % 2 * 128, v % 2)
  | .rl => (v * 2 % 256 + cin, v / 128)
  | .rr => (v / 2 + cin * 128, v % 2)
  | .sla => (v * 2 % 256, v / 128)
  | .sra => (v / 2 + v / 128 * 128, v % 2)
  | .swap => (v % 16 * 16 + v / 16, 0)
  | .srl => (v / 2, v % 2)

/-- The flags of an extended rotate or shift (R245). -/
def rotFlags (op : RotOp) (v : Byte) (s : State) : State :=
  let r := rot op v.toNat (bit s.fC)
  s.setFlags (decide (r.1 = 0)) false false (decide (r.2 = 1))

/-- The result byte of an extended rotate or shift (R245). -/
def rotResult (op : RotOp) (v : Byte) (s : State) : Byte := BitVec.ofNat 8 (rot op v.toNat (bit s.fC)).1

/-- The adjustment of DAA on natural numbers (R316). -/
def daaAdjustment (a : Nat) (n h c : Bool) : Nat :=
  (if h = true ∨ (n = false ∧ a % 16 > 9) then 6 else 0) + (if c = true ∨ (n = false ∧ a > 0x99) then 0x60 else 0)

/-- The result of DAA on natural numbers (R316). -/
def daaResult (a : Nat) (n h c : Bool) : Nat :=
  if n then (256 + a - daaAdjustment a n h c) % 256 else (a + daaAdjustment a n h c) % 256

/-- What an instruction may write: registers, F's bits under a mask, SP, PC, IME with ime_pending, the mode, the fault
latch, and the bytes of memory at the addresses that the state before it gives. -/
structure MayWrite where
  regs : List Reg := []
  flags : Byte := 0x00#8
  sp : Bool := false
  pc : Bool := false
  ime : Bool := false
  mode : Bool := false
  fault : Bool := false
  mem : State → List Word := fun _ => []

/-- From `s` to `t`, everything but what `w` allows is unchanged. The report of cycles may change; the oracle's record
may change under the oracle bus only. -/
structure Keeps (w : MayWrite) (s t : State) : Prop where
  regs : ∀ r, r ∉ w.regs → t.reg r = s.reg r
  flags : t.f &&& (0xF0#8 &&& ~~~w.flags) = s.f &&& (0xF0#8 &&& ~~~w.flags)
  wholeF : w.flags = 0x00#8 → t.f = s.f
  sp : w.sp = false → t.sp = s.sp
  pc : w.pc = false → t.pc = s.pc
  ime : w.ime = false → t.ime = s.ime ∧ t.imePending = s.imePending
  mode : w.mode = false → t.mode = s.mode
  fault : w.fault = false → t.fault = s.fault
  outside : t.params = s.params ∧ t.inputs = s.inputs ∧ t.irqAck = s.irqAck
  oracle : s.params.bus = .plain → t.draws = s.draws ∧ t.busLog = s.busLog
  mem : ∀ addr, addr ∉ w.mem s → t.mem.read addr = s.mem.read addr

/-- The given bytes are one whole instruction, and from every state it answers a next state in which everything but what
`w` allows is unchanged. -/
def FrameOf (bytes : List Byte) (w : MayWrite) : Prop :=
  ∀ (p : Params) (s : State), ∃ i t, decode p bytes = .ok i [] ∧ exec i s = .next t ∧ Keeps w s t

end Sys2Proof.Claims

open Sys2Proof.Claims

/-! Encoding. -/

/-- R90, R91, R103, R104, R106: decoding the bytes of a well-formed instruction gives it back, all bytes used. -/
def Obligations.DecodeAfterEncodeGivesTheInstruction : Prop :=
  ∀ (p : Params) (i : Instr), i.wellFormed p = true → decode p (encode i) = .ok i []

/-- R90, R91, R94: whatever is decoded is well-formed, and the bytes used are exactly its encoding, so no bit is dropped
and no two instructions share bytes. -/
def Obligations.EncodeAfterDecodeGivesTheBytes : Prop :=
  ∀ (p : Params) (bytes rest : List Byte) (i : Instr),
    decode p bytes = .ok i rest → i.wellFormed p = true ∧ encode i ++ rest = bytes

/-- R94, R107: a byte at the head of enough bytes always decodes; its entry has class Invalid exactly for the eleven
bytes; and no entry of the extended table is Invalid. -/
def Obligations.EveryByteHasAnEntryAndElevenAreInvalid : Prop :=
  ∀ (p : Params) (op b1 b2 : Byte),
    (∃ i rest, decode p (op :: b1 :: b2 :: []) = .ok i rest) ∧
    ((primaryDescriptor p op).cls = .invalid ↔ op ∈ invalidBytes) ∧
    (extendedDescriptor p op).cls ≠ .invalid

/-- R110, R111: the encoded length of every primary opcode. -/
def Obligations.LengthIsDecidedByTheFirstByte : Prop :=
  ∀ (p : Params) (op b1 b2 : Byte), ∃ i rest, decode p (op :: b1 :: b2 :: []) = .ok i rest ∧
    3 - rest.length =
      if op ∈ [0x01#8, 0x11#8, 0x21#8, 0x31#8, 0x08#8, 0xC2#8, 0xCA#8, 0xD2#8, 0xDA#8, 0xC3#8, 0xC4#8, 0xCC#8, 0xD4#8,
          0xDC#8, 0xCD#8, 0xEA#8, 0xFA#8] then 3
      else if op ∈ [0x06#8, 0x0E#8, 0x16#8, 0x1E#8, 0x26#8, 0x2E#8, 0x3E#8, 0x36#8, 0xC6#8, 0xCE#8, 0xD6#8, 0xDE#8,
          0xE6#8, 0xEE#8, 0xF6#8, 0xFE#8, 0xE0#8, 0xF0#8, 0x18#8, 0x20#8, 0x28#8, 0x30#8, 0x38#8, 0xE8#8, 0xF8#8,
          0xCB#8] then 2
      else if op = 0x10#8 then (match p.stopLength with | .one => 1 | .two => 2)
      else 1

/-- R104, R106: a few words of the spec read as the instruction the spec names. -/
def Obligations.WordsOfTheSpecDecode : Prop :=
  ∀ p : Params,
    decode p [0b00000000#8] = .ok .nop [] ∧
    decode p [0b01000001#8] = .ok .ld_B_C [] ∧
    decode p [0b00100001#8, 0x4D#8, 0x01#8] = .ok (.ld_HL_nn 0x014D#16) [] ∧
    decode p [0b11111110#8, 0x05#8] = .ok (.cp_n 0x05#8) [] ∧
    decode p [0b11110000#8, 0x00#8] = .ok (.ldh_A_atN 0x00#8) [] ∧
    decode p [0b00100000#8, 0xFB#8] = .ok (.jr_NZ_e 0xFB#8) [] ∧
    decode p [0b11001101#8, 0x34#8, 0x12#8] = .ok (.call_nn 0x1234#16) [] ∧
    decode p [0b11001011#8, 0b01111100#8] = .ok .bit_7_H [] ∧
    decode p [0b11001011#8, 0b11001011#8] = .ok .set_1_E [] ∧
    decode p [0b11010011#8] = .ok .invalid_D3 []

/-- R93, R400, R8: what an executed instruction reports is the cost of its table entry, the entry's costs being those of
the parameter CYCLES: the base cost; where the entry has a taken cost and the condition its bits 4 and 3 name holds, the
taken cost, which is the larger in the table of R400; and for an Invalid entry its fault (assumption 7). -/
def Obligations.ReportedCyclesAreTheTables : Prop :=
  ∀ (i : Instr) (s t : State), exec i s = .next t →
    match encode i with
    | [] => False
    | op :: rest =>
      let d := if op = 0xCB#8 then extendedDescriptor s.params (rest.headD 0x00#8) else primaryDescriptor s.params op
      match d.cycles, d.taken with
      | some base, none => t.report = .cycles base
      | some base, some more =>
        (s.params.cycles = .standard → base < more) ∧
        ∀ cc, condCode cc = op.extractLsb' 3 2 → t.report = .cycles (if s.cond cc = true then more else base)
      | none, _ => d.cls = .invalid ∧ ∃ x, t.report = .fault x ∧ t.fault = some x

/-! The step. -/

/-- R340 lines c to 7, R92, under the plain-array bus: when no fault is latched, the core runs or wakes, and no interrupt
is dispatched, a step executes the instruction the bytes at PC decode to, with PC behind it, and then applies a pending
EI of an earlier step (line d). What comes before line c is `State.outside` (assumptions 5 and 12). -/
def Obligations.StepRunsTheDecodedInstruction : Prop :=
  ∀ (s t : State) (i : Instr) (rest : List Byte),
    s.outside.fault = none →
    (s.outside.mode = .running ∨ s.stimulus.irq = true) →
    ¬ (s.outside.params.irqDispatch = true ∧ s.stimulus.irq = true ∧ s.outside.ime = true) →
    s.outside.params.bus = .plain →
    decode s.outside.params
      [s.outside.mem.read s.outside.pc, s.outside.mem.read (s.outside.pc + 1), s.outside.mem.read (s.outside.pc + 2)]
      = .ok i rest →
    exec i { s.outside with mode := .running, pc := s.outside.pc + BitVec.ofNat 16 (3 - rest.length) } = .next t →
    step s = .next (if t.fault = none ∧ s.outside.imePending = true ∧ t.imePending = true
      then { t with ime := true, imePending := false } else t)

/-- R92, R76, R340 lines 2 to 4, under either bus: a fetch reads the instruction's bytes once each, in ascending order
from PC, and leaves PC behind them; the plain array is not changed by it. That the oracle records the reads and answers
free bytes in order is the model's rendering (assumption 6). -/
def Obligations.FetchReadsEachByteOnce : Prop :=
  ∀ s : State, ∃ bytes : List Byte,
    decode s.params bytes = .ok s.fetch.1 [] ∧
    s.fetch.2.pc = s.pc + BitVec.ofNat 16 bytes.length ∧
    (s.params.bus = .plain →
      s.fetch.2 = { s with pc := s.pc + BitVec.ofNat 16 bytes.length } ∧
      ∀ k, k < bytes.length → bytes[k]? = some (s.mem.read (s.pc + BitVec.ofNat 16 k))) ∧
    (s.params.bus = .oracle →
      s.fetch.2.busLog = s.busLog ++ bytes.zipIdx.map (fun x => BusAccess.read (s.pc + BitVec.ofNat 16 x.2) x.1) ∧
      s.fetch.2.draws = s.draws + bytes.length ∧
      ∀ k, k < bytes.length → bytes[k]? = some (Config.busDraw (s.draws + k)))

/-- R341, R342: Halted or Stopped with `irq` 0, a step fetches nothing, changes nothing and reports `IDLE_CYCLES`.
`irq` is read from the model's list of inputs (assumption 5). -/
def Obligations.IdleStepChangesNothing : Prop :=
  ∀ s : State, s.outside.fault = none → (s.outside.mode = .halted ∨ s.outside.mode = .stopped) →
    s.stimulus.irq = false →
    step s = .next { s.outside with report := .cycles s.outside.params.idleCycles }

/-- R343, R344: with `irq` 1 a step from Halted or Stopped does, in the same step and whatever IME is, what it would do
from Running. `irq` is read from the model's list of inputs (assumption 5). -/
def Obligations.IrqWakesInTheSameStep : Prop :=
  ∀ (s : State) (m : Mode), s.stimulus.irq = true → s.outside.fault = none →
    step s = step { s with mode := m }

/-- R33, R351: while a fault is latched and Reset is not presented, a step reports the same fault and changes no register,
flag, mode or latch, and memory only as the outside writes it (the outside is the list of inputs of assumption 5). -/
def Obligations.LatchedFaultIsReportedAgain : Prop :=
  ∀ (s : State) (x : IllegalOpcode), s.fault = some x → s.stimulus.reset = false →
    step s = .next { s.outside with report := .fault x } ∧ s.outside.fault = some x ∧
      s.outside.snapshot = s.snapshot ∧ s.outside.mode = s.mode ∧
      (s.stimulus.imeSet = none → s.outside.ime = s.ime ∧ s.outside.imePending = s.imePending) ∧
      (s.stimulus.writes = [] → s.outside.mem = s.mem)

/-- R27, R380: the registers and the control state after reset. -/
def Obligations.ResetValues : Prop :=
  State.reset.a = 0x01#8 ∧ State.reset.f = 0xB0#8 ∧ State.reset.b = 0x00#8 ∧ State.reset.c = 0x13#8 ∧
  State.reset.d = 0x00#8 ∧ State.reset.e = 0xD8#8 ∧ State.reset.h = 0x01#8 ∧ State.reset.l = 0x4D#8 ∧
  State.reset.sp = 0xFFFE#16 ∧ State.reset.pc = 0x0100#16 ∧ State.reset.ime = false ∧
  State.reset.imePending = false ∧ State.reset.mode = .running ∧ State.reset.fault = none

/-- R380, R381, R46, R353, R406: before a step the outside's writes are stored in the plain array, the last one to an
address staying; Reset then leads to the reset values from every state, a latched fault or a stopped core among them, and
leaves memory alone; ImeSet then writes IME, clears a pending EI and changes nothing else; and nothing presented changes
nothing. That the writes come first, that the oracle drops them, that the parameters and the oracle's record survive, that
each step takes one stimulus and sets irq_ack back to 0, and that Reset leaves nothing reported, is the model's choice
(assumptions 1, 5, 6, 8, 12). -/
def Obligations.ResetThenImeSetBeforeTheStep : Prop :=
  (∀ (s : State) (x : Stimulus) (later : List Stimulus), s.inputs = x :: later →
    s.outside =
      (let mem := match s.params.bus with
         | .plain => x.writes.foldl (fun m w => m.write w.1 w.2) s.mem
         | .oracle => s.mem
       let s1 := { s with mem := mem, inputs := later, irqAck := false }
       let s2 := if x.reset = true then
           { State.reset with
             mem := mem, params := s.params, inputs := later, draws := s.draws, busLog := s.busLog }
         else s1
       match x.imeSet with
       | some b => { s2 with ime := b, imePending := false }
       | none => s2)) ∧
  ∀ s : State, s.inputs = [] → s.outside = { s with irqAck := false }

/-- R362: with `IRQ_DISPATCH` on and `irq` and IME 1, a step that finds no fault latched clears IME, pushes PC, loads PC
from `irq_vector`, raises `irq_ack`, reports 20 cycles and fetches nothing; a Halted or Stopped core wakes first. The
inputs are the model's list (assumption 5). -/
def Obligations.InterruptDispatch : Prop :=
  ∀ s : State, s.outside.fault = none → s.outside.params.irqDispatch = true → s.stimulus.irq = true →
    s.outside.ime = true →
    step s = .next
      { State.push16 { s.outside with mode := .running, ime := false, imePending := false } s.outside.pc with
        pc := s.stimulus.irqVector, irqAck := true, report := .cycles 20 }

/-- R345, R361: in mode Running with `IRQ_DISPATCH` off, neither `irq` nor `irq_vector` has any effect. The
inputs are the model's list (assumption 5). -/
def Obligations.IrqIsIgnoredWhileRunning : Prop :=
  ∀ (s : State) (x : Stimulus) (later : List Stimulus) (irq : Bool) (vector : Word),
    s.inputs = x :: later → s.outside.mode = .running → s.outside.params.irqDispatch = false →
    step { s with inputs := { x with irq := irq, irqVector := vector } :: later } = step s

/-- R314, R346: when an EI is pending as an instruction begins, IME is 1 and nothing is pending after that step, whatever
the instruction, unless it is DI, after which both are 0, or an Invalid opcode, which leaves both. When none is
pending, an EI leaves IME as it was, with itself pending. -/
def Obligations.PendingEiTakesEffectAfterTheNextInstruction : Prop :=
  ∀ s t : State, s.outside.fault = none →
    (s.outside.mode = .running ∨ s.stimulus.irq = true) →
    ¬ (s.outside.params.irqDispatch = true ∧ s.stimulus.irq = true ∧ s.outside.ime = true) →
    step s = .next t →
    (s.outside.imePending = true →
      if s.outside.wake.fetch.1 = .di then t.ime = false ∧ t.imePending = false
      else if t.fault = none then t.ime = true ∧ t.imePending = false
      else t.ime = s.outside.ime ∧ t.imePending = true) ∧
    (s.outside.imePending = false → s.outside.wake.fetch.1 = .ei → t.ime = s.outside.ime ∧ t.imePending = true)

/-- R352: "No other operation in this core can fail": from every state a step has a next state. -/
def Obligations.EveryStepHasANextState : Prop :=
  ∀ s : State, ∃ t, step s = .next t

/-- R22, R60: every step keeps memory in canonical form (the model's representation, assumption 3) and the low nibble of
F at 0. -/
def Obligations.EveryStepKeepsTheInvariant : Prop :=
  ∀ s t : State, s.Inv → step s = .next t → t.Inv

/-- R27: the invariant holds after reset. -/
def Obligations.ResetMeetsTheInvariant : Prop := State.reset.Inv

/-- R8, R406: no step changes a parameter, and a step uses up exactly one stimulus (assumptions 1 and 5: both are the
model's rendering). -/
def Obligations.ParametersAreConstant : Prop :=
  ∀ s t : State, step s = .next t → t.params = s.params ∧ t.inputs = s.inputs.tail

/-- R30 to R34, R290, R313, R314, R345, R350: over all instructions, only HALT and STOP write the mode, only DI and
RETI write IME, only DI, EI and RETI write ime_pending (RETI clears it, R290), and only the eleven Invalid bytes set the
fault latch. That the latched address is PC less 1, PC being behind the byte, is assumption 7. -/
def Obligations.ControlStateIsWrittenByTheNamedInstructionsOnly : Prop :=
  ∀ (i : Instr) (s t : State), exec i s = .next t →
    t.mode = (match i with | .halt => .halted | .stop _ => .stopped | _ => s.mode) ∧
    t.ime = (match i with | .di => false | .reti => true | _ => s.ime) ∧
    t.imePending = (match i with | .di => false | .reti => false | .ei => true | _ => s.imePending) ∧
    t.fault = (match encode i with
      | [op] => if op ∈ invalidBytes then some { opcode := op, addr := s.pc - 1 } else s.fault
      | _ => s.fault)

/-! Bus, memory and stack. -/

/-- R62, R71: the plain array answers the last byte written and is changed by writes alone; the oracle answers a free
byte, records reads and writes, and holds no memory (the record is the model's, assumption 6). -/
def Obligations.TheTwoBuses : Prop :=
  ∀ (s : State) (addr other : Word) (v : Byte),
    (s.params.bus = .plain → s.mem.wf = true →
      (s.busRead addr).2 = s ∧ (s.busWrite addr v).busLog = s.busLog ∧
      ((s.busWrite addr v).busRead other).1 = if addr = other then v else (s.busRead other).1) ∧
    (s.params.bus = .oracle →
      (s.busRead addr).1 = Config.busDraw s.draws ∧
      (s.busRead addr).2 = { s with
        draws := s.draws + 1, busLog := s.busLog ++ [.read addr (Config.busDraw s.draws)] } ∧
      s.busWrite addr v = { s with busLog := s.busLog ++ [.write addr v] })

/-- R60, R61, R62(a): a write keeps the canonical form, is read back, and leaves every other of the 65536 addresses
alone; and canonical memories that read the same everywhere are equal. The form, and the 0x00 an unlisted address reads
as, are the model's (assumption 3). -/
def Obligations.MemoryIsCanonical : Prop :=
  (∀ (m : Memory) (addr : Word) (v : Byte), m.wf = true →
    (m.write addr v).wf = true ∧ ∀ other, (m.write addr v).read other = if addr = other then v else m.read other) ∧
  (∀ m n : Memory, m.wf = true → n.wf = true → (∀ addr, m.read addr = n.read addr) → m = n)

/-- R66, R67: a 16-bit access is two byte accesses, low byte first, the second address modulo 2^16. The oracle's record is
the model's (assumption 6). -/
def Obligations.SixteenBitAccessesAreLittleEndian : Prop :=
  ∀ (s : State) (addr : Word) (v : Word),
    (s.params.bus = .plain →
      s.busRead16 addr = (BitVec.ofNat 16 ((s.mem.read (addr + 1)).toNat * 256 + (s.mem.read addr).toNat), s) ∧
      (s.mem.wf = true → ∀ other, (s.busWrite16 addr v).mem.read other =
        if other = addr + 1 then BitVec.ofNat 8 (v.toNat / 256)
        else if other = addr then BitVec.ofNat 8 v.toNat else s.mem.read other)) ∧
    (s.params.bus = .oracle →
      (s.busRead16 addr).2.busLog = s.busLog ++
        [.read addr (Config.busDraw s.draws), .read (addr + 1) (Config.busDraw (s.draws + 1))] ∧
      (s.busWrite16 addr v).busLog = s.busLog ++
        [.write addr (BitVec.ofNat 8 v.toNat), .write (addr + 1) (BitVec.ofNat 8 (v.toNat / 256))])

/-- R68, R69: a push writes the high byte at SP-1 and then the low byte at SP-2; a pop reads the low byte at SP and then
the high byte at SP+1; SP moves by 2 modulo 2^16; no other byte and no other register changes. The oracle's record is
the model's (assumption 6). -/
def Obligations.PushAndPop : Prop :=
  ∀ (s : State) (v : Word),
    (s.params.bus = .plain → s.mem.wf = true →
      s.push16 v = { s with sp := s.sp - 2, mem := (s.push16 v).mem } ∧
      (∀ other, (s.push16 v).mem.read other =
        if other = s.sp - 1 then BitVec.ofNat 8 (v.toNat / 256)
        else if other = s.sp - 2 then BitVec.ofNat 8 v.toNat else s.mem.read other) ∧
      s.pop16 = (BitVec.ofNat 16 ((s.mem.read (s.sp + 1)).toNat * 256 + (s.mem.read s.sp).toNat),
        { s with sp := s.sp + 2 })) ∧
    (s.params.bus = .oracle →
      s.push16 v = { s with
        sp := s.sp - 2
        busLog := s.busLog ++
          [.write (s.sp - 1) (BitVec.ofNat 8 (v.toNat / 256)), .write (s.sp - 2) (BitVec.ofNat 8 v.toNat)] } ∧
      s.pop16.2 = { s with
        sp := s.sp + 2, draws := s.draws + 2
        busLog := s.busLog ++
          [.read s.sp (Config.busDraw s.draws), .read (s.sp + 1) (Config.busDraw (s.draws + 1))] })

/-- R182: PUSH qq and then POP qq' restore SP and put the value of qq into qq', into AF with its low nibble 0. -/
def Obligations.PushThenPopRestores : Prop :=
  ∀ (p : Params) (from' to' : StackPair) (s : State), s.params.bus = .plain → s.mem.wf = true →
    ∃ i j t u, decode p [0b11#2 ++ stackCode from' ++ 0b0101#4] = .ok i [] ∧
      decode p [0b11#2 ++ stackCode to' ++ 0b0001#4] = .ok j [] ∧
      exec i s = .next t ∧ exec j t = .next u ∧ u.sp = s.sp ∧
      u.stackPair to' = if to' = .af then s.stackPair from' &&& 0xFFF0#16 else s.stackPair from'

/-- R301: RET after CALL nn, or after RST t, gives PC the address behind the call and restores SP. -/
def Obligations.ReturnAfterCallRestores : Prop :=
  ∀ (p : Params) (s : State), s.params.bus = .plain → s.mem.wf = true →
    ∃ j, decode p [0xC9#8] = .ok j [] ∧
      (∀ nn : Word, ∃ i t u, decode p [0xCD#8, loByte nn, hiByte nn] = .ok i [] ∧
        exec i s = .next t ∧ exec j t = .next u ∧ u.pc = s.pc ∧ u.sp = s.sp) ∧
      (∀ y : BitVec 3, ∃ i t u, decode p [0b11#2 ++ y ++ 0b111#3] = .ok i [] ∧
        exec i s = .next t ∧ exec j t = .next u ∧ u.pc = s.pc ∧ u.sp = s.sp)

/-- R70, R217, R219, R240: INC (HL), DEC (HL) and every extended (HL) form but BIT make exactly one read and then
exactly one write, both at HL; BIT b,(HL) makes the one read. Shown on the oracle bus, whose record is the
model's (assumption 6). -/
def Obligations.ReadModifyWriteAccessesTheBusTwice : Prop :=
  ∀ (p : Params) (s : State), s.params.bus = .oracle →
    (∀ bytes, (bytes = [0x34#8] ∨ bytes = [0x35#8] ∨
        ∃ op2 : Byte, op2.extractLsb' 0 3 = 6#3 ∧ op2.extractLsb' 6 2 ≠ 1#2 ∧ bytes = [0xCB#8, op2]) →
      ∃ i t v w, decode p bytes = .ok i [] ∧ exec i s = .next t ∧
        t.busLog = s.busLog ++ [.read s.hl v, .write s.hl w]) ∧
    (∀ b : BitVec 3, ∃ i t v, decode p [0xCB#8, 0b01#2 ++ b ++ 0b110#3] = .ok i [] ∧ exec i s = .next t ∧
      t.busLog = s.busLog ++ [.read s.hl v])

/-- R23, R24: the pairs are views of the 8-bit registers; writing one splits it, and AF's low nibble is forced to 0. -/
def Obligations.PairedViews : Prop :=
  ∀ (s : State) (v : Word),
    s.bc.toNat = s.b.toNat * 256 + s.c.toNat ∧ s.de.toNat = s.d.toNat * 256 + s.e.toNat ∧
    s.hl.toNat = s.h.toNat * 256 + s.l.toNat ∧
    (s.flagsClean → s.af.toNat = s.a.toNat * 256 + s.f.toNat) ∧
    s.setBC v = { s with b := BitVec.ofNat 8 (v.toNat / 256), c := BitVec.ofNat 8 v.toNat } ∧
    s.setDE v = { s with d := BitVec.ofNat 8 (v.toNat / 256), e := BitVec.ofNat 8 v.toNat } ∧
    s.setHL v = { s with h := BitVec.ofNat 8 (v.toNat / 256), l := BitVec.ofNat 8 v.toNat } ∧
    s.setAF v = { s with a := BitVec.ofNat 8 (v.toNat / 256), f := BitVec.ofNat 8 (v.toNat % 256 / 16 * 16) }

/-- R22, R25: F packs Z, N, H, C in bits 7 to 4 with a low nibble of 0; each flag reads back as it was written; and
giving a flag its own value leaves it. -/
def Obligations.FlagsOfF : Prop :=
  ∀ (s : State) (z n h c : Bool),
    (s.setFlags z n h c).f.toNat = 128 * bit z + 64 * bit n + 32 * bit h + 16 * bit c ∧
    (s.setFlags z n h c).fZ = z ∧ (s.setFlags z n h c).fN = n ∧ (s.setFlags z n h c).fH = h ∧
    (s.setFlags z n h c).fC = c ∧ s.setFlags z n h c = { s with f := (s.setFlags z n h c).f } ∧
    (s.flagsClean → s.setFlags s.fZ s.fN s.fH s.fC = s)

/-! What each instruction does. -/

/-- R131, R132: LD r,r' and LD r,n. -/
def Obligations.LoadRegister : Prop :=
  (∀ dst src : Reg, Runs [0b01#2 ++ code dst ++ code src] 4 fun s => s.setReg dst (s.reg src)) ∧
  (∀ (dst : Reg) (n : Byte), Runs [0b00#2 ++ code dst ++ 0b110#3, n] 8 fun s => s.setReg dst n)

/-- R133, R134, R135: LD r,(HL), LD (HL),r and LD (HL),n. -/
def Obligations.LoadThroughHL : Prop :=
  (∀ dst : Reg, Runs [0b01#2 ++ code dst ++ 0b110#3] 8 (withRead State.hl fun v s => s.setReg dst v)) ∧
  (∀ src : Reg, Runs [0b01110#5 ++ code src] 8 fun s => s.busWrite s.hl (s.reg src)) ∧
  (∀ n : Byte, Runs [0x36#8, n] 12 fun s => s.busWrite s.hl n)

/-- R136 to R141: LD A,(BC), LD A,(DE), LD (BC),A, LD (DE),A, LD A,(nn), LD (nn),A. -/
def Obligations.LoadAThroughPairsAndAbsolute : Prop :=
  Runs [0x0A#8] 8 (withRead State.bc fun v s => s.setReg .a v) ∧
  Runs [0x1A#8] 8 (withRead State.de fun v s => s.setReg .a v) ∧
  Runs [0x02#8] 8 (fun s => s.busWrite s.bc s.a) ∧
  Runs [0x12#8] 8 (fun s => s.busWrite s.de s.a) ∧
  ∀ lo hi : Byte,
    Runs [0xFA#8, lo, hi] 16 (withRead (fun _ => hi ++ lo) fun v s => s.setReg .a v) ∧
    Runs [0xEA#8, lo, hi] 16 fun s => s.busWrite (hi ++ lo) s.a

/-- R142 to R145: LD (HL+),A, LD A,(HL+), LD (HL-),A, LD A,(HL-); HL moves by one, modulo 2^16, after the access. -/
def Obligations.LoadAndMoveHL : Prop :=
  Runs [0x22#8] 8 (fun s => (s.busWrite s.hl s.a).setHL (s.hl + 1)) ∧
  Runs [0x2A#8] 8 (withRead State.hl fun v s => (s.setReg .a v).setHL (s.hl + 1)) ∧
  Runs [0x32#8] 8 (fun s => (s.busWrite s.hl s.a).setHL (s.hl - 1)) ∧
  Runs [0x3A#8] 8 (withRead State.hl fun v s => (s.setReg .a v).setHL (s.hl - 1))

/-- R147 to R150: LDH (n),A, LDH A,(n), LD (C),A, LD A,(C); the address is 0xFF00 plus the byte. -/
def Obligations.LoadHighPage : Prop :=
  (∀ n : Byte,
    Runs [0xE0#8, n] 12 (fun s => s.busWrite (0xFF#8 ++ n) s.a) ∧
    Runs [0xF0#8, n] 12 (withRead (fun _ => 0xFF#8 ++ n) fun v s => s.setReg .a v)) ∧
  Runs [0xE2#8] 8 (fun s => s.busWrite (0xFF#8 ++ s.c) s.a) ∧
  Runs [0xF2#8] 8 (withRead (fun s => 0xFF#8 ++ s.c) fun v s => s.setReg .a v)

/-- R171, R172, R173: LD rr,nn, LD (nn),SP and LD SP,HL. -/
def Obligations.LoadSixteenBits : Prop :=
  (∀ (dst : Pair) (lo hi : Byte),
    Runs [0b00#2 ++ pairCode dst ++ 0b0001#4, lo, hi] 12 fun s => s.setPair dst (hi ++ lo)) ∧
  (∀ lo hi : Byte, Runs [0x08#8, lo, hi] 20 fun s =>
    (s.busWrite (hi ++ lo) (BitVec.ofNat 8 s.sp.toNat)).busWrite ((hi ++ lo) + 1)
      (BitVec.ofNat 8 (s.sp.toNat / 256))) ∧
  Runs [0xF9#8] 8 fun s => s.setSP s.hl

/-- R177, R234: LD HL,SP+e and ADD SP,e: the sum modulo 2^16 with e sign-extended, Zero and Subtract 0, Half-Carry and
Carry from the unsigned sum of SP's low byte and the raw byte. -/
def Obligations.StackPointerPlusOffset : Prop :=
  ∀ e : Byte,
    Runs [0xF8#8, e] 12 (fun s =>
      (s.setHL (BitVec.ofInt 16 (s.sp.toNat + e.toInt))).setFlags false false
        (decide (s.sp.toNat % 16 + e.toNat % 16 > 15)) (decide (s.sp.toNat % 256 + e.toNat > 255))) ∧
    Runs [0xE8#8, e] 16 fun s =>
      (s.setSP (BitVec.ofInt 16 (s.sp.toNat + e.toInt))).setFlags false false
        (decide (s.sp.toNat % 16 + e.toNat % 16 > 15)) (decide (s.sp.toNat % 256 + e.toNat > 255))

/-- R179, R180, R181: PUSH qq and POP qq, AF among them. -/
def Obligations.PushAndPopPairs : Prop :=
  ∀ qq : StackPair,
    Runs [0b11#2 ++ stackCode qq ++ 0b0101#4] 16 (fun s => s.push16 (s.stackPair qq)) ∧
    Runs [0b11#2 ++ stackCode qq ++ 0b0001#4] 12 fun s => s.pop16.2.setStackPair qq s.pop16.1

/-- R192, R195, R198, R201, R204, R207, R210, R213: the eight ALU operations with a register. -/
def Obligations.AluWithRegister : Prop :=
  ∀ (op : AluOp) (r : Reg), Runs [0b10#2 ++ aluCode op ++ code r] 4 fun s => aluEffect op (s.reg r) s

/-- R193, R196, R199, R202, R205, R208, R211, R214: the eight ALU operations with the byte at HL. -/
def Obligations.AluWithMemory : Prop :=
  ∀ op : AluOp, Runs [0b10#2 ++ aluCode op ++ 0b110#3] 8 (withRead State.hl (aluEffect op))

/-- R194, R197, R200, R203, R206, R209, R212, R215: the eight ALU operations with an immediate byte. -/
def Obligations.AluWithImmediate : Prop :=
  ∀ (op : AluOp) (n : Byte), Runs [0b11#2 ++ aluCode op ++ 0b110#3, n] 8 (aluEffect op n)

/-- R216 to R219: INC and DEC of a register and of the byte at HL; Carry is not written. -/
def Obligations.IncrementAndDecrement : Prop :=
  (∀ r : Reg,
    Runs [0b00#2 ++ code r ++ 0b100#3] 4 (fun s =>
      (s.setReg r (s.reg r + 1)).setFlags (decide (s.reg r = 0xFF#8)) false
        (decide ((s.reg r).toNat % 16 = 15)) s.fC) ∧
    Runs [0b00#2 ++ code r ++ 0b101#3] 4 fun s =>
      (s.setReg r (s.reg r - 1)).setFlags (decide (s.reg r = 0x01#8)) true
        (decide ((s.reg r).toNat % 16 = 0)) s.fC) ∧
  Runs [0x34#8] 12 (withRead State.hl fun v s =>
    (s.busWrite s.hl (v + 1)).setFlags (decide (v = 0xFF#8)) false (decide (v.toNat % 16 = 15)) s.fC) ∧
  Runs [0x35#8] 12 (withRead State.hl fun v s =>
    (s.busWrite s.hl (v - 1)).setFlags (decide (v = 0x01#8)) true (decide (v.toNat % 16 = 0)) s.fC)

/-- R231, R232, R233: ADD HL,rr with its carries out of bits 11 and 15, Zero untouched and Subtract untouched unless
`ADDHL_CLEARS_N`; INC rr and DEC rr, which write no flag. -/
def Obligations.SixteenBitArithmetic : Prop :=
  ∀ rr : Pair,
    Runs [0b00#2 ++ pairCode rr ++ 0b1001#4] 8 (fun s =>
      (s.setHL (s.hl + s.pair rr)).setFlags s.fZ (if s.params.addHlClearsN then false else s.fN)
        (decide (s.hl.toNat % 4096 + (s.pair rr).toNat % 4096 > 4095))
        (decide (s.hl.toNat + (s.pair rr).toNat > 65535))) ∧
    Runs [0b00#2 ++ pairCode rr ++ 0b0011#4] 8 (fun s => s.setPair rr (s.pair rr + 1)) ∧
    Runs [0b00#2 ++ pairCode rr ++ 0b1011#4] 8 fun s => s.setPair rr (s.pair rr - 1)

/-- R241 to R244: RLCA, RLA, RRCA, RRA; Zero, Subtract and Half-Carry are cleared, Carry is the bit shifted out. -/
def Obligations.AccumulatorRotates : Prop :=
  ∀ x ∈ [(0x07#8, RotOp.rlc), (0x17#8, RotOp.rl), (0x0F#8, RotOp.rrc), (0x1F#8, RotOp.rr)],
    Runs [x.1] 4 fun s =>
      (s.setReg .a (rotResult x.2 s.a s)).setFlags false false false
        (decide ((rot x.2 s.a.toNat (bit s.fC)).2 = 1))

/-- R246, R248, R250, R252, R254, R256, R258, R260: the extended rotates, shifts and SWAP of a register. -/
def Obligations.RotateRegister : Prop :=
  ∀ (op : RotOp) (r : Reg), Runs [0xCB#8, 0b00#2 ++ rotCode op ++ code r] 8 fun s =>
    (rotFlags op (s.reg r) s).setReg r (rotResult op (s.reg r) s)

/-- R247, R249, R251, R253, R255, R257, R259, R261: the extended rotates, shifts and SWAP of the byte at HL. -/
def Obligations.RotateMemory : Prop :=
  ∀ op : RotOp, Runs [0xCB#8, 0b00#2 ++ rotCode op ++ 0b110#3] 16 (withRead State.hl fun v s =>
    (rotFlags op v s).busWrite s.hl (rotResult op v s))

/-- R262, R263: BIT b,r and BIT b,(HL): Zero is the complement of the bit, Carry is kept, the operand is not written. -/
def Obligations.BitTest : Prop :=
  ∀ b : BitVec 3,
    (∀ r : Reg, Runs [0xCB#8, 0b01#2 ++ b ++ code r] 8 fun s =>
      s.setFlags (decide ((s.reg r).toNat / 2 ^ b.toNat % 2 = 0)) false true s.fC) ∧
    Runs [0xCB#8, 0b01#2 ++ b ++ 0b110#3] 12 (withRead State.hl fun v s =>
      s.setFlags (decide (v.toNat / 2 ^ b.toNat % 2 = 0)) false true s.fC)

/-- R264 to R267: RES and SET of a register and of the byte at HL, which is written back even when it does not
change. -/
def Obligations.BitResetAndSet : Prop :=
  ∀ b : BitVec 3,
    (∀ r : Reg,
      Runs [0xCB#8, 0b10#2 ++ b ++ code r] 8 (fun s => s.setReg r (s.reg r &&& ~~~(1#8 <<< b.toNat))) ∧
      Runs [0xCB#8, 0b11#2 ++ b ++ code r] 8 fun s => s.setReg r (s.reg r ||| (1#8 <<< b.toNat))) ∧
    Runs [0xCB#8, 0b10#2 ++ b ++ 0b110#3] 16
      (withRead State.hl fun v s => s.busWrite s.hl (v &&& ~~~(1#8 <<< b.toNat))) ∧
    Runs [0xCB#8, 0b11#2 ++ b ++ 0b110#3] 16
      (withRead State.hl fun v s => s.busWrite s.hl (v ||| (1#8 <<< b.toNat)))

/-- R281 to R285: JP nn, JP cc,nn, JP HL, JR e, JR cc,e. PC is behind the instruction before the jump. -/
def Obligations.Jumps : Prop :=
  (∀ lo hi : Byte, Runs [0xC3#8, lo, hi] 16 fun s => s.jump (hi ++ lo)) ∧
  (∀ (cc : Cond) (lo hi : Byte), RunsIf cc [0b110#3 ++ condCode cc ++ 0b010#3, lo, hi] 16 12 fun s =>
    s.jump (hi ++ lo)) ∧
  Runs [0xE9#8] 4 (fun s => s.jump s.hl) ∧
  (∀ e : Byte, Runs [0x18#8, e] 12 fun s => s.jump (BitVec.ofInt 16 (s.pc.toNat + e.toInt))) ∧
  (∀ (cc : Cond) (e : Byte), RunsIf cc [0b001#3 ++ condCode cc ++ 0b000#3, e] 12 8 fun s =>
    s.jump (BitVec.ofInt 16 (s.pc.toNat + e.toInt)))

/-- R98: the four conditions. -/
def Obligations.Conditions : Prop :=
  ∀ s : State,
    (s.cond .nz = true ↔ s.f.toNat / 128 % 2 = 0) ∧ (s.cond .z = true ↔ s.f.toNat / 128 % 2 = 1) ∧
    (s.cond .nc = true ↔ s.f.toNat / 16 % 2 = 0) ∧ (s.cond .c = true ↔ s.f.toNat / 16 % 2 = 1)

/-- R286 to R290, R300: CALL nn, CALL cc,nn, RET, RET cc, RETI, RST t. PC, behind the instruction, is the return
address. -/
def Obligations.CallsAndReturns : Prop :=
  (∀ lo hi : Byte, Runs [0xCD#8, lo, hi] 24 fun s => (s.push16 s.pc).jump (hi ++ lo)) ∧
  (∀ (cc : Cond) (lo hi : Byte), RunsIf cc [0b110#3 ++ condCode cc ++ 0b100#3, lo, hi] 24 12 fun s =>
    (s.push16 s.pc).jump (hi ++ lo)) ∧
  Runs [0xC9#8] 16 (fun s => s.pop16.2.jump s.pop16.1) ∧
  (∀ cc : Cond, RunsIf cc [0b110#3 ++ condCode cc ++ 0b000#3] 20 8 fun s => s.pop16.2.jump s.pop16.1) ∧
  Runs [0xD9#8] 16 (fun s => { s.pop16.2 with pc := s.pop16.1, ime := true, imePending := false }) ∧
  (∀ y : BitVec 3, Runs [0b11#2 ++ y ++ 0b111#3] 16 fun s =>
    (s.push16 s.pc).jump (BitVec.ofNat 16 (8 * y.toNat)))

/-- R310 to R314, R111: NOP, HALT, STOP of either length, DI and EI. -/
def Obligations.NopHaltStopDiEi : Prop :=
  Runs [0x00#8] 4 (fun s => s) ∧
  Runs [0x76#8] 4 (fun s => { s with mode := .halted }) ∧
  (∀ p : Params,
    (p.stopLength = .two → ∀ n : Byte, RunsWith p [0x10#8, n] 4 fun s => { s with mode := .stopped }) ∧
    (p.stopLength = .one → RunsWith p [0x10#8] 4 fun s => { s with mode := .stopped })) ∧
  Runs [0xF3#8] 4 (fun s => { s with ime := false, imePending := false }) ∧
  Runs [0xFB#8] 4 (fun s => { s with imePending := true })

/-- R316: DAA. -/
def Obligations.DecimalAdjust : Prop :=
  Runs [0x27#8] 4 fun s =>
    (s.setReg .a (BitVec.ofNat 8 (daaResult s.a.toNat s.fN s.fH s.fC))).setFlags
      (decide (daaResult s.a.toNat s.fN s.fH s.fC = 0)) s.fN false
      (decide (s.fC = true ∨ (s.fN = false ∧ s.a.toNat > 0x99)))

/-- R317, R318, R319: CPL, SCF, CCF. -/
def Obligations.ComplementAndCarryFlag : Prop :=
  Runs [0x2F#8] 4 (fun s => (s.setReg .a (~~~s.a)).setFlags s.fZ true true s.fC) ∧
  Runs [0x37#8] 4 (fun s => s.setFlags s.fZ false false true) ∧
  Runs [0x3F#8] 4 (fun s => s.setFlags s.fZ false false (!s.fC))

/-- R330, R350: an Invalid byte is an instruction of length 1 that latches and reports IllegalOpcode with its byte and
the address it was fetched from, and changes nothing else. -/
def Obligations.InvalidOpcodesTakeTheException : Prop :=
  ∀ op ∈ invalidBytes, ∀ p, Answers p [op] fun s =>
    { s with
      fault := some { opcode := op, addr := s.pc - 1 }, report := .fault { opcode := op, addr := s.pc - 1 } }

/-- R103: behind the prefix, the second byte is looked up in the extended table; the pseudo-descriptor PREFIX CB is never
decoded, and executing it is executing that entry (the model's choice, assumption 9). -/
def Obligations.PrefixRedirectsToTheExtendedTable : Prop :=
  ∀ (p : Params) (op2 : Byte), ∃ i, decode p [0xCB#8, op2] = .ok i [] ∧ (∀ n, i ≠ .prefix_CB n) ∧
    ∀ s, ∃ t, exec (.prefix_CB op2) s = .next t ∧ exec i s = .next t

/-! Frames: what each instruction leaves unchanged. -/

/-- R130, R170, R23: the loads. A load changes its destination register or the byte it stores, and moves of HL and SP
where the rule names them; only LD HL,SP+e and POP AF write F. -/
def Obligations.FrameOfLoadsAndStack : Prop :=
  (∀ dst src : Reg, FrameOf [0b01#2 ++ code dst ++ code src] { regs := [dst] }) ∧
  (∀ (dst : Reg) (n : Byte), FrameOf [0b00#2 ++ code dst ++ 0b110#3, n] { regs := [dst] }) ∧
  (∀ dst : Reg, FrameOf [0b01#2 ++ code dst ++ 0b110#3] { regs := [dst] }) ∧
  (∀ src : Reg, FrameOf [0b01110#5 ++ code src] { mem := fun s => [s.hl] }) ∧
  (∀ n : Byte, FrameOf [0x36#8, n] { mem := fun s => [s.hl] }) ∧
  FrameOf [0x0A#8] { regs := [.a] } ∧ FrameOf [0x1A#8] { regs := [.a] } ∧
  FrameOf [0x02#8] { mem := fun s => [s.bc] } ∧ FrameOf [0x12#8] { mem := fun s => [s.de] } ∧
  (∀ lo hi : Byte, FrameOf [0xFA#8, lo, hi] { regs := [.a] } ∧
    FrameOf [0xEA#8, lo, hi] { mem := fun _ => [hi ++ lo] }) ∧
  FrameOf [0x22#8] { regs := [.h, .l], mem := fun s => [s.hl] } ∧ FrameOf [0x2A#8] { regs := [.a, .h, .l] } ∧
  FrameOf [0x32#8] { regs := [.h, .l], mem := fun s => [s.hl] } ∧ FrameOf [0x3A#8] { regs := [.a, .h, .l] } ∧
  (∀ n : Byte, FrameOf [0xE0#8, n] { mem := fun _ => [0xFF#8 ++ n] } ∧ FrameOf [0xF0#8, n] { regs := [.a] }) ∧
  FrameOf [0xE2#8] { mem := fun s => [0xFF#8 ++ s.c] } ∧ FrameOf [0xF2#8] { regs := [.a] } ∧
  (∀ lo hi : Byte, FrameOf [0x01#8, lo, hi] { regs := [.b, .c] } ∧ FrameOf [0x11#8, lo, hi] { regs := [.d, .e] } ∧
    FrameOf [0x21#8, lo, hi] { regs := [.h, .l] } ∧ FrameOf [0x31#8, lo, hi] { sp := true } ∧
    FrameOf [0x08#8, lo, hi] { mem := fun _ => [hi ++ lo, (hi ++ lo) + 1] }) ∧
  FrameOf [0xF9#8] { sp := true } ∧
  (∀ e : Byte, FrameOf [0xF8#8, e] { regs := [.h, .l], flags := 0xF0#8 }) ∧
  (∀ qq : StackPair, FrameOf [0b11#2 ++ stackCode qq ++ 0b0101#4]
    { sp := true, mem := fun s => [s.sp - 1, s.sp - 2] }) ∧
  FrameOf [0xC1#8] { regs := [.b, .c], sp := true } ∧ FrameOf [0xD1#8] { regs := [.d, .e], sp := true } ∧
  FrameOf [0xE1#8] { regs := [.h, .l], sp := true } ∧
  FrameOf [0xF1#8] { regs := [.a], flags := 0xF0#8, sp := true }

/-- R190, R230, R26, R316 to R319: the arithmetic and logic instructions, DAA, CPL, SCF and CCF. CP writes flags alone,
INC and DEC leave Carry, ADD HL,rr leaves Zero, INC rr and DEC rr leave F, DAA leaves Subtract, CPL Zero and Carry, SCF
and CCF Zero. -/
def Obligations.FrameOfArithmetic : Prop :=
  (∀ (op : AluOp) (r : Reg), FrameOf [0b10#2 ++ aluCode op ++ code r]
    { regs := if op = .cp then [] else [.a], flags := 0xF0#8 }) ∧
  (∀ op : AluOp, FrameOf [0b10#2 ++ aluCode op ++ 0b110#3]
    { regs := if op = .cp then [] else [.a], flags := 0xF0#8 }) ∧
  (∀ (op : AluOp) (n : Byte), FrameOf [0b11#2 ++ aluCode op ++ 0b110#3, n]
    { regs := if op = .cp then [] else [.a], flags := 0xF0#8 }) ∧
  (∀ r : Reg, FrameOf [0b00#2 ++ code r ++ 0b100#3] { regs := [r], flags := 0xE0#8 } ∧
    FrameOf [0b00#2 ++ code r ++ 0b101#3] { regs := [r], flags := 0xE0#8 }) ∧
  FrameOf [0x34#8] { flags := 0xE0#8, mem := fun s => [s.hl] } ∧
  FrameOf [0x35#8] { flags := 0xE0#8, mem := fun s => [s.hl] } ∧
  (∀ rr : Pair, FrameOf [0b00#2 ++ pairCode rr ++ 0b1001#4] { regs := [.h, .l], flags := 0x70#8 }) ∧
  (∀ q : Bool, FrameOf [if q then 0x0B#8 else 0x03#8] { regs := [.b, .c] } ∧
    FrameOf [if q then 0x1B#8 else 0x13#8] { regs := [.d, .e] } ∧
    FrameOf [if q then 0x2B#8 else 0x23#8] { regs := [.h, .l] } ∧
    FrameOf [if q then 0x3B#8 else 0x33#8] { sp := true }) ∧
  (∀ e : Byte, FrameOf [0xE8#8, e] { flags := 0xF0#8, sp := true }) ∧
  FrameOf [0x27#8] { regs := [.a], flags := 0xB0#8 } ∧ FrameOf [0x2F#8] { regs := [.a], flags := 0x60#8 } ∧
  FrameOf [0x37#8] { flags := 0x70#8 } ∧ FrameOf [0x3F#8] { flags := 0x70#8 }

/-- R240, R26: the rotates, shifts and bit instructions. BIT leaves Carry and its operand, RES and SET leave F. -/
def Obligations.FrameOfRotatesAndBits : Prop :=
  (∀ op ∈ [0x07#8, 0x17#8, 0x0F#8, 0x1F#8], FrameOf [op] { regs := [.a], flags := 0xF0#8 }) ∧
  (∀ (op : RotOp) (r : Reg), FrameOf [0xCB#8, 0b00#2 ++ rotCode op ++ code r] { regs := [r], flags := 0xF0#8 }) ∧
  (∀ op : RotOp, FrameOf [0xCB#8, 0b00#2 ++ rotCode op ++ 0b110#3] { flags := 0xF0#8, mem := fun s => [s.hl] }) ∧
  ∀ b : BitVec 3,
    (∀ r : Reg, FrameOf [0xCB#8, 0b01#2 ++ b ++ code r] { flags := 0xE0#8 } ∧
      FrameOf [0xCB#8, 0b10#2 ++ b ++ code r] { regs := [r] } ∧
      FrameOf [0xCB#8, 0b11#2 ++ b ++ code r] { regs := [r] }) ∧
    FrameOf [0xCB#8, 0b01#2 ++ b ++ 0b110#3] { flags := 0xE0#8 } ∧
    FrameOf [0xCB#8, 0b10#2 ++ b ++ 0b110#3] { mem := fun s => [s.hl] } ∧
    FrameOf [0xCB#8, 0b11#2 ++ b ++ 0b110#3] { mem := fun s => [s.hl] }

/-- R280, R310 to R314, R330: jumps, calls, returns, NOP, HALT, STOP, DI, EI and the Invalid bytes. No flag and no 8-bit
register changes; SP and the stack's two bytes change only for calls, restarts and returns. -/
def Obligations.FrameOfControl : Prop :=
  (∀ lo hi : Byte, FrameOf [0xC3#8, lo, hi] { pc := true } ∧
    FrameOf [0xCD#8, lo, hi] { pc := true, sp := true, mem := fun s => [s.sp - 1, s.sp - 2] }) ∧
  (∀ (cc : Cond) (lo hi : Byte), FrameOf [0b110#3 ++ condCode cc ++ 0b010#3, lo, hi] { pc := true } ∧
    FrameOf [0b110#3 ++ condCode cc ++ 0b100#3, lo, hi]
      { pc := true, sp := true, mem := fun s => if s.cond cc = true then [s.sp - 1, s.sp - 2] else [] }) ∧
  FrameOf [0xE9#8] { pc := true } ∧ (∀ e : Byte, FrameOf [0x18#8, e] { pc := true }) ∧
  (∀ (cc : Cond) (e : Byte), FrameOf [0b001#3 ++ condCode cc ++ 0b000#3, e] { pc := true }) ∧
  FrameOf [0xC9#8] { pc := true, sp := true } ∧
  (∀ cc : Cond, FrameOf [0b110#3 ++ condCode cc ++ 0b000#3] { pc := true, sp := true }) ∧
  FrameOf [0xD9#8] { pc := true, sp := true, ime := true } ∧
  (∀ y : BitVec 3, FrameOf [0b11#2 ++ y ++ 0b111#3]
    { pc := true, sp := true, mem := fun s => [s.sp - 1, s.sp - 2] }) ∧
  FrameOf [0x00#8] {} ∧ FrameOf [0x76#8] { mode := true } ∧ FrameOf [0xF3#8] { ime := true } ∧
  FrameOf [0xFB#8] { ime := true } ∧ (∀ op ∈ invalidBytes, FrameOf [op] { fault := true }) ∧
  ∀ (n : Option Byte) (s : State), ∃ t, exec (.stop n) s = .next t ∧ Keeps { mode := true } s t
end

