-- ==== Sys2Proof/Laws/State.lean ====
section
/-! SUPPORT. What each named update of the state does to each field, one lemma a field, so that no later proof unfolds a
record update. -/

namespace Sys2Proof.Machine

@[simp] theorem State.setFlags_a (s : State) (z n hc cy : Bool) : (s.setFlags z n hc cy).a = s.a := rfl
@[simp] theorem State.setFlags_f (s : State) (z n hc cy : Bool) : (s.setFlags z n hc cy).f = packFlags z n hc cy := rfl
@[simp] theorem State.setFlags_b (s : State) (z n hc cy : Bool) : (s.setFlags z n hc cy).b = s.b := rfl
@[simp] theorem State.setFlags_c (s : State) (z n hc cy : Bool) : (s.setFlags z n hc cy).c = s.c := rfl
@[simp] theorem State.setFlags_d (s : State) (z n hc cy : Bool) : (s.setFlags z n hc cy).d = s.d := rfl
@[simp] theorem State.setFlags_e (s : State) (z n hc cy : Bool) : (s.setFlags z n hc cy).e = s.e := rfl
@[simp] theorem State.setFlags_h (s : State) (z n hc cy : Bool) : (s.setFlags z n hc cy).h = s.h := rfl
@[simp] theorem State.setFlags_l (s : State) (z n hc cy : Bool) : (s.setFlags z n hc cy).l = s.l := rfl
@[simp] theorem State.setFlags_sp (s : State) (z n hc cy : Bool) : (s.setFlags z n hc cy).sp = s.sp := rfl
@[simp] theorem State.setFlags_pc (s : State) (z n hc cy : Bool) : (s.setFlags z n hc cy).pc = s.pc := rfl
@[simp] theorem State.setFlags_ime (s : State) (z n hc cy : Bool) : (s.setFlags z n hc cy).ime = s.ime := rfl
@[simp] theorem State.setFlags_imePending (s : State) (z n hc cy : Bool) : (s.setFlags z n hc cy).imePending = s.imePending := rfl
@[simp] theorem State.setFlags_mode (s : State) (z n hc cy : Bool) : (s.setFlags z n hc cy).mode = s.mode := rfl
@[simp] theorem State.setFlags_fault (s : State) (z n hc cy : Bool) : (s.setFlags z n hc cy).fault = s.fault := rfl
@[simp] theorem State.setFlags_mem (s : State) (z n hc cy : Bool) : (s.setFlags z n hc cy).mem = s.mem := rfl
@[simp] theorem State.setFlags_params (s : State) (z n hc cy : Bool) : (s.setFlags z n hc cy).params = s.params := rfl
@[simp] theorem State.setFlags_inputs (s : State) (z n hc cy : Bool) : (s.setFlags z n hc cy).inputs = s.inputs := rfl
@[simp] theorem State.setFlags_report (s : State) (z n hc cy : Bool) : (s.setFlags z n hc cy).report = s.report := rfl
@[simp] theorem State.setFlags_irqAck (s : State) (z n hc cy : Bool) : (s.setFlags z n hc cy).irqAck = s.irqAck := rfl
@[simp] theorem State.setFlags_draws (s : State) (z n hc cy : Bool) : (s.setFlags z n hc cy).draws = s.draws := rfl
@[simp] theorem State.setFlags_busLog (s : State) (z n hc cy : Bool) : (s.setFlags z n hc cy).busLog = s.busLog := rfl

@[simp] theorem State.took_a (s : State) (k : Nat) : (s.took k).a = s.a := rfl
@[simp] theorem State.took_f (s : State) (k : Nat) : (s.took k).f = s.f := rfl
@[simp] theorem State.took_b (s : State) (k : Nat) : (s.took k).b = s.b := rfl
@[simp] theorem State.took_c (s : State) (k : Nat) : (s.took k).c = s.c := rfl
@[simp] theorem State.took_d (s : State) (k : Nat) : (s.took k).d = s.d := rfl
@[simp] theorem State.took_e (s : State) (k : Nat) : (s.took k).e = s.e := rfl
@[simp] theorem State.took_h (s : State) (k : Nat) : (s.took k).h = s.h := rfl
@[simp] theorem State.took_l (s : State) (k : Nat) : (s.took k).l = s.l := rfl
@[simp] theorem State.took_sp (s : State) (k : Nat) : (s.took k).sp = s.sp := rfl
@[simp] theorem State.took_pc (s : State) (k : Nat) : (s.took k).pc = s.pc := rfl
@[simp] theorem State.took_ime (s : State) (k : Nat) : (s.took k).ime = s.ime := rfl
@[simp] theorem State.took_imePending (s : State) (k : Nat) : (s.took k).imePending = s.imePending := rfl
@[simp] theorem State.took_mode (s : State) (k : Nat) : (s.took k).mode = s.mode := rfl
@[simp] theorem State.took_fault (s : State) (k : Nat) : (s.took k).fault = s.fault := rfl
@[simp] theorem State.took_mem (s : State) (k : Nat) : (s.took k).mem = s.mem := rfl
@[simp] theorem State.took_params (s : State) (k : Nat) : (s.took k).params = s.params := rfl
@[simp] theorem State.took_inputs (s : State) (k : Nat) : (s.took k).inputs = s.inputs := rfl
@[simp] theorem State.took_report (s : State) (k : Nat) : (s.took k).report = .cycles k := rfl
@[simp] theorem State.took_irqAck (s : State) (k : Nat) : (s.took k).irqAck = s.irqAck := rfl
@[simp] theorem State.took_draws (s : State) (k : Nat) : (s.took k).draws = s.draws := rfl
@[simp] theorem State.took_busLog (s : State) (k : Nat) : (s.took k).busLog = s.busLog := rfl

@[simp] theorem State.jump_a (s : State) (v : Word) : (s.jump v).a = s.a := rfl
@[simp] theorem State.jump_f (s : State) (v : Word) : (s.jump v).f = s.f := rfl
@[simp] theorem State.jump_b (s : State) (v : Word) : (s.jump v).b = s.b := rfl
@[simp] theorem State.jump_c (s : State) (v : Word) : (s.jump v).c = s.c := rfl
@[simp] theorem State.jump_d (s : State) (v : Word) : (s.jump v).d = s.d := rfl
@[simp] theorem State.jump_e (s : State) (v : Word) : (s.jump v).e = s.e := rfl
@[simp] theorem State.jump_h (s : State) (v : Word) : (s.jump v).h = s.h := rfl
@[simp] theorem State.jump_l (s : State) (v : Word) : (s.jump v).l = s.l := rfl
@[simp] theorem State.jump_sp (s : State) (v : Word) : (s.jump v).sp = s.sp := rfl
@[simp] theorem State.jump_pc (s : State) (v : Word) : (s.jump v).pc = v := rfl
@[simp] theorem State.jump_ime (s : State) (v : Word) : (s.jump v).ime = s.ime := rfl
@[simp] theorem State.jump_imePending (s : State) (v : Word) : (s.jump v).imePending = s.imePending := rfl
@[simp] theorem State.jump_mode (s : State) (v : Word) : (s.jump v).mode = s.mode := rfl
@[simp] theorem State.jump_fault (s : State) (v : Word) : (s.jump v).fault = s.fault := rfl
@[simp] theorem State.jump_mem (s : State) (v : Word) : (s.jump v).mem = s.mem := rfl
@[simp] theorem State.jump_params (s : State) (v : Word) : (s.jump v).params = s.params := rfl
@[simp] theorem State.jump_inputs (s : State) (v : Word) : (s.jump v).inputs = s.inputs := rfl
@[simp] theorem State.jump_report (s : State) (v : Word) : (s.jump v).report = s.report := rfl
@[simp] theorem State.jump_irqAck (s : State) (v : Word) : (s.jump v).irqAck = s.irqAck := rfl
@[simp] theorem State.jump_draws (s : State) (v : Word) : (s.jump v).draws = s.draws := rfl
@[simp] theorem State.jump_busLog (s : State) (v : Word) : (s.jump v).busLog = s.busLog := rfl

@[simp] theorem State.setSP_a (s : State) (v : Word) : (s.setSP v).a = s.a := rfl
@[simp] theorem State.setSP_f (s : State) (v : Word) : (s.setSP v).f = s.f := rfl
@[simp] theorem State.setSP_b (s : State) (v : Word) : (s.setSP v).b = s.b := rfl
@[simp] theorem State.setSP_c (s : State) (v : Word) : (s.setSP v).c = s.c := rfl
@[simp] theorem State.setSP_d (s : State) (v : Word) : (s.setSP v).d = s.d := rfl
@[simp] theorem State.setSP_e (s : State) (v : Word) : (s.setSP v).e = s.e := rfl
@[simp] theorem State.setSP_h (s : State) (v : Word) : (s.setSP v).h = s.h := rfl
@[simp] theorem State.setSP_l (s : State) (v : Word) : (s.setSP v).l = s.l := rfl
@[simp] theorem State.setSP_sp (s : State) (v : Word) : (s.setSP v).sp = v := rfl
@[simp] theorem State.setSP_pc (s : State) (v : Word) : (s.setSP v).pc = s.pc := rfl
@[simp] theorem State.setSP_ime (s : State) (v : Word) : (s.setSP v).ime = s.ime := rfl
@[simp] theorem State.setSP_imePending (s : State) (v : Word) : (s.setSP v).imePending = s.imePending := rfl
@[simp] theorem State.setSP_mode (s : State) (v : Word) : (s.setSP v).mode = s.mode := rfl
@[simp] theorem State.setSP_fault (s : State) (v : Word) : (s.setSP v).fault = s.fault := rfl
@[simp] theorem State.setSP_mem (s : State) (v : Word) : (s.setSP v).mem = s.mem := rfl
@[simp] theorem State.setSP_params (s : State) (v : Word) : (s.setSP v).params = s.params := rfl
@[simp] theorem State.setSP_inputs (s : State) (v : Word) : (s.setSP v).inputs = s.inputs := rfl
@[simp] theorem State.setSP_report (s : State) (v : Word) : (s.setSP v).report = s.report := rfl
@[simp] theorem State.setSP_irqAck (s : State) (v : Word) : (s.setSP v).irqAck = s.irqAck := rfl
@[simp] theorem State.setSP_draws (s : State) (v : Word) : (s.setSP v).draws = s.draws := rfl
@[simp] theorem State.setSP_busLog (s : State) (v : Word) : (s.setSP v).busLog = s.busLog := rfl

@[simp] theorem State.setBC_a (s : State) (v : Word) : (s.setBC v).a = s.a := rfl
@[simp] theorem State.setBC_f (s : State) (v : Word) : (s.setBC v).f = s.f := rfl
@[simp] theorem State.setBC_b (s : State) (v : Word) : (s.setBC v).b = hiByte v := rfl
@[simp] theorem State.setBC_c (s : State) (v : Word) : (s.setBC v).c = loByte v := rfl
@[simp] theorem State.setBC_d (s : State) (v : Word) : (s.setBC v).d = s.d := rfl
@[simp] theorem State.setBC_e (s : State) (v : Word) : (s.setBC v).e = s.e := rfl
@[simp] theorem State.setBC_h (s : State) (v : Word) : (s.setBC v).h = s.h := rfl
@[simp] theorem State.setBC_l (s : State) (v : Word) : (s.setBC v).l = s.l := rfl
@[simp] theorem State.setBC_sp (s : State) (v : Word) : (s.setBC v).sp = s.sp := rfl
@[simp] theorem State.setBC_pc (s : State) (v : Word) : (s.setBC v).pc = s.pc := rfl
@[simp] theorem State.setBC_ime (s : State) (v : Word) : (s.setBC v).ime = s.ime := rfl
@[simp] theorem State.setBC_imePending (s : State) (v : Word) : (s.setBC v).imePending = s.imePending := rfl
@[simp] theorem State.setBC_mode (s : State) (v : Word) : (s.setBC v).mode = s.mode := rfl
@[simp] theorem State.setBC_fault (s : State) (v : Word) : (s.setBC v).fault = s.fault := rfl
@[simp] theorem State.setBC_mem (s : State) (v : Word) : (s.setBC v).mem = s.mem := rfl
@[simp] theorem State.setBC_params (s : State) (v : Word) : (s.setBC v).params = s.params := rfl
@[simp] theorem State.setBC_inputs (s : State) (v : Word) : (s.setBC v).inputs = s.inputs := rfl
@[simp] theorem State.setBC_report (s : State) (v : Word) : (s.setBC v).report = s.report := rfl
@[simp] theorem State.setBC_irqAck (s : State) (v : Word) : (s.setBC v).irqAck = s.irqAck := rfl
@[simp] theorem State.setBC_draws (s : State) (v : Word) : (s.setBC v).draws = s.draws := rfl
@[simp] theorem State.setBC_busLog (s : State) (v : Word) : (s.setBC v).busLog = s.busLog := rfl

@[simp] theorem State.setDE_a (s : State) (v : Word) : (s.setDE v).a = s.a := rfl
@[simp] theorem State.setDE_f (s : State) (v : Word) : (s.setDE v).f = s.f := rfl
@[simp] theorem State.setDE_b (s : State) (v : Word) : (s.setDE v).b = s.b := rfl
@[simp] theorem State.setDE_c (s : State) (v : Word) : (s.setDE v).c = s.c := rfl
@[simp] theorem State.setDE_d (s : State) (v : Word) : (s.setDE v).d = hiByte v := rfl
@[simp] theorem State.setDE_e (s : State) (v : Word) : (s.setDE v).e = loByte v := rfl
@[simp] theorem State.setDE_h (s : State) (v : Word) : (s.setDE v).h = s.h := rfl
@[simp] theorem State.setDE_l (s : State) (v : Word) : (s.setDE v).l = s.l := rfl
@[simp] theorem State.setDE_sp (s : State) (v : Word) : (s.setDE v).sp = s.sp := rfl
@[simp] theorem State.setDE_pc (s : State) (v : Word) : (s.setDE v).pc = s.pc := rfl
@[simp] theorem State.setDE_ime (s : State) (v : Word) : (s.setDE v).ime = s.ime := rfl
@[simp] theorem State.setDE_imePending (s : State) (v : Word) : (s.setDE v).imePending = s.imePending := rfl
@[simp] theorem State.setDE_mode (s : State) (v : Word) : (s.setDE v).mode = s.mode := rfl
@[simp] theorem State.setDE_fault (s : State) (v : Word) : (s.setDE v).fault = s.fault := rfl
@[simp] theorem State.setDE_mem (s : State) (v : Word) : (s.setDE v).mem = s.mem := rfl
@[simp] theorem State.setDE_params (s : State) (v : Word) : (s.setDE v).params = s.params := rfl
@[simp] theorem State.setDE_inputs (s : State) (v : Word) : (s.setDE v).inputs = s.inputs := rfl
@[simp] theorem State.setDE_report (s : State) (v : Word) : (s.setDE v).report = s.report := rfl
@[simp] theorem State.setDE_irqAck (s : State) (v : Word) : (s.setDE v).irqAck = s.irqAck := rfl
@[simp] theorem State.setDE_draws (s : State) (v : Word) : (s.setDE v).draws = s.draws := rfl
@[simp] theorem State.setDE_busLog (s : State) (v : Word) : (s.setDE v).busLog = s.busLog := rfl

@[simp] theorem State.setHL_a (s : State) (v : Word) : (s.setHL v).a = s.a := rfl
@[simp] theorem State.setHL_f (s : State) (v : Word) : (s.setHL v).f = s.f := rfl
@[simp] theorem State.setHL_b (s : State) (v : Word) : (s.setHL v).b = s.b := rfl
@[simp] theorem State.setHL_c (s : State) (v : Word) : (s.setHL v).c = s.c := rfl
@[simp] theorem State.setHL_d (s : State) (v : Word) : (s.setHL v).d = s.d := rfl
@[simp] theorem State.setHL_e (s : State) (v : Word) : (s.setHL v).e = s.e := rfl
@[simp] theorem State.setHL_h (s : State) (v : Word) : (s.setHL v).h = hiByte v := rfl
@[simp] theorem State.setHL_l (s : State) (v : Word) : (s.setHL v).l = loByte v := rfl
@[simp] theorem State.setHL_sp (s : State) (v : Word) : (s.setHL v).sp = s.sp := rfl
@[simp] theorem State.setHL_pc (s : State) (v : Word) : (s.setHL v).pc = s.pc := rfl
@[simp] theorem State.setHL_ime (s : State) (v : Word) : (s.setHL v).ime = s.ime := rfl
@[simp] theorem State.setHL_imePending (s : State) (v : Word) : (s.setHL v).imePending = s.imePending := rfl
@[simp] theorem State.setHL_mode (s : State) (v : Word) : (s.setHL v).mode = s.mode := rfl
@[simp] theorem State.setHL_fault (s : State) (v : Word) : (s.setHL v).fault = s.fault := rfl
@[simp] theorem State.setHL_mem (s : State) (v : Word) : (s.setHL v).mem = s.mem := rfl
@[simp] theorem State.setHL_params (s : State) (v : Word) : (s.setHL v).params = s.params := rfl
@[simp] theorem State.setHL_inputs (s : State) (v : Word) : (s.setHL v).inputs = s.inputs := rfl
@[simp] theorem State.setHL_report (s : State) (v : Word) : (s.setHL v).report = s.report := rfl
@[simp] theorem State.setHL_irqAck (s : State) (v : Word) : (s.setHL v).irqAck = s.irqAck := rfl
@[simp] theorem State.setHL_draws (s : State) (v : Word) : (s.setHL v).draws = s.draws := rfl
@[simp] theorem State.setHL_busLog (s : State) (v : Word) : (s.setHL v).busLog = s.busLog := rfl

@[simp] theorem State.setAF_a (s : State) (v : Word) : (s.setAF v).a = hiByte v := rfl
@[simp] theorem State.setAF_f (s : State) (v : Word) : (s.setAF v).f = loByte v &&& 0xF0#8 := rfl
@[simp] theorem State.setAF_b (s : State) (v : Word) : (s.setAF v).b = s.b := rfl
@[simp] theorem State.setAF_c (s : State) (v : Word) : (s.setAF v).c = s.c := rfl
@[simp] theorem State.setAF_d (s : State) (v : Word) : (s.setAF v).d = s.d := rfl
@[simp] theorem State.setAF_e (s : State) (v : Word) : (s.setAF v).e = s.e := rfl
@[simp] theorem State.setAF_h (s : State) (v : Word) : (s.setAF v).h = s.h := rfl
@[simp] theorem State.setAF_l (s : State) (v : Word) : (s.setAF v).l = s.l := rfl
@[simp] theorem State.setAF_sp (s : State) (v : Word) : (s.setAF v).sp = s.sp := rfl
@[simp] theorem State.setAF_pc (s : State) (v : Word) : (s.setAF v).pc = s.pc := rfl
@[simp] theorem State.setAF_ime (s : State) (v : Word) : (s.setAF v).ime = s.ime := rfl
@[simp] theorem State.setAF_imePending (s : State) (v : Word) : (s.setAF v).imePending = s.imePending := rfl
@[simp] theorem State.setAF_mode (s : State) (v : Word) : (s.setAF v).mode = s.mode := rfl
@[simp] theorem State.setAF_fault (s : State) (v : Word) : (s.setAF v).fault = s.fault := rfl
@[simp] theorem State.setAF_mem (s : State) (v : Word) : (s.setAF v).mem = s.mem := rfl
@[simp] theorem State.setAF_params (s : State) (v : Word) : (s.setAF v).params = s.params := rfl
@[simp] theorem State.setAF_inputs (s : State) (v : Word) : (s.setAF v).inputs = s.inputs := rfl
@[simp] theorem State.setAF_report (s : State) (v : Word) : (s.setAF v).report = s.report := rfl
@[simp] theorem State.setAF_irqAck (s : State) (v : Word) : (s.setAF v).irqAck = s.irqAck := rfl
@[simp] theorem State.setAF_draws (s : State) (v : Word) : (s.setAF v).draws = s.draws := rfl
@[simp] theorem State.setAF_busLog (s : State) (v : Word) : (s.setAF v).busLog = s.busLog := rfl

@[simp] theorem State.raiseIllegalOpcode_a (s : State) (op : Byte) (p : Word) : (s.raiseIllegalOpcode op p).a = s.a := rfl
@[simp] theorem State.raiseIllegalOpcode_f (s : State) (op : Byte) (p : Word) : (s.raiseIllegalOpcode op p).f = s.f := rfl
@[simp] theorem State.raiseIllegalOpcode_b (s : State) (op : Byte) (p : Word) : (s.raiseIllegalOpcode op p).b = s.b := rfl
@[simp] theorem State.raiseIllegalOpcode_c (s : State) (op : Byte) (p : Word) : (s.raiseIllegalOpcode op p).c = s.c := rfl
@[simp] theorem State.raiseIllegalOpcode_d (s : State) (op : Byte) (p : Word) : (s.raiseIllegalOpcode op p).d = s.d := rfl
@[simp] theorem State.raiseIllegalOpcode_e (s : State) (op : Byte) (p : Word) : (s.raiseIllegalOpcode op p).e = s.e := rfl
@[simp] theorem State.raiseIllegalOpcode_h (s : State) (op : Byte) (p : Word) : (s.raiseIllegalOpcode op p).h = s.h := rfl
@[simp] theorem State.raiseIllegalOpcode_l (s : State) (op : Byte) (p : Word) : (s.raiseIllegalOpcode op p).l = s.l := rfl
@[simp] theorem State.raiseIllegalOpcode_sp (s : State) (op : Byte) (p : Word) : (s.raiseIllegalOpcode op p).sp = s.sp := rfl
@[simp] theorem State.raiseIllegalOpcode_pc (s : State) (op : Byte) (p : Word) : (s.raiseIllegalOpcode op p).pc = s.pc := rfl
@[simp] theorem State.raiseIllegalOpcode_ime (s : State) (op : Byte) (p : Word) : (s.raiseIllegalOpcode op p).ime = s.ime := rfl
@[simp] theorem State.raiseIllegalOpcode_imePending (s : State) (op : Byte) (p : Word) : (s.raiseIllegalOpcode op p).imePending = s.imePending := rfl
@[simp] theorem State.raiseIllegalOpcode_mode (s : State) (op : Byte) (p : Word) : (s.raiseIllegalOpcode op p).mode = s.mode := rfl
@[simp] theorem State.raiseIllegalOpcode_fault (s : State) (op : Byte) (p : Word) : (s.raiseIllegalOpcode op p).fault = some ⟨op, p⟩ := rfl
@[simp] theorem State.raiseIllegalOpcode_mem (s : State) (op : Byte) (p : Word) : (s.raiseIllegalOpcode op p).mem = s.mem := rfl
@[simp] theorem State.raiseIllegalOpcode_params (s : State) (op : Byte) (p : Word) : (s.raiseIllegalOpcode op p).params = s.params := rfl
@[simp] theorem State.raiseIllegalOpcode_inputs (s : State) (op : Byte) (p : Word) : (s.raiseIllegalOpcode op p).inputs = s.inputs := rfl
@[simp] theorem State.raiseIllegalOpcode_report (s : State) (op : Byte) (p : Word) : (s.raiseIllegalOpcode op p).report = .fault ⟨op, p⟩ := rfl
@[simp] theorem State.raiseIllegalOpcode_irqAck (s : State) (op : Byte) (p : Word) : (s.raiseIllegalOpcode op p).irqAck = s.irqAck := rfl
@[simp] theorem State.raiseIllegalOpcode_draws (s : State) (op : Byte) (p : Word) : (s.raiseIllegalOpcode op p).draws = s.draws := rfl
@[simp] theorem State.raiseIllegalOpcode_busLog (s : State) (op : Byte) (p : Word) : (s.raiseIllegalOpcode op p).busLog = s.busLog := rfl

@[simp] theorem State.applyImeSet_a (s : State) (v : Bool) : (s.applyImeSet v).a = s.a := rfl
@[simp] theorem State.applyImeSet_f (s : State) (v : Bool) : (s.applyImeSet v).f = s.f := rfl
@[simp] theorem State.applyImeSet_b (s : State) (v : Bool) : (s.applyImeSet v).b = s.b := rfl
@[simp] theorem State.applyImeSet_c (s : State) (v : Bool) : (s.applyImeSet v).c = s.c := rfl
@[simp] theorem State.applyImeSet_d (s : State) (v : Bool) : (s.applyImeSet v).d = s.d := rfl
@[simp] theorem State.applyImeSet_e (s : State) (v : Bool) : (s.applyImeSet v).e = s.e := rfl
@[simp] theorem State.applyImeSet_h (s : State) (v : Bool) : (s.applyImeSet v).h = s.h := rfl
@[simp] theorem State.applyImeSet_l (s : State) (v : Bool) : (s.applyImeSet v).l = s.l := rfl
@[simp] theorem State.applyImeSet_sp (s : State) (v : Bool) : (s.applyImeSet v).sp = s.sp := rfl
@[simp] theorem State.applyImeSet_pc (s : State) (v : Bool) : (s.applyImeSet v).pc = s.pc := rfl
@[simp] theorem State.applyImeSet_ime (s : State) (v : Bool) : (s.applyImeSet v).ime = v := rfl
@[simp] theorem State.applyImeSet_imePending (s : State) (v : Bool) : (s.applyImeSet v).imePending = false := rfl
@[simp] theorem State.applyImeSet_mode (s : State) (v : Bool) : (s.applyImeSet v).mode = s.mode := rfl
@[simp] theorem State.applyImeSet_fault (s : State) (v : Bool) : (s.applyImeSet v).fault = s.fault := rfl
@[simp] theorem State.applyImeSet_mem (s : State) (v : Bool) : (s.applyImeSet v).mem = s.mem := rfl
@[simp] theorem State.applyImeSet_params (s : State) (v : Bool) : (s.applyImeSet v).params = s.params := rfl
@[simp] theorem State.applyImeSet_inputs (s : State) (v : Bool) : (s.applyImeSet v).inputs = s.inputs := rfl
@[simp] theorem State.applyImeSet_report (s : State) (v : Bool) : (s.applyImeSet v).report = s.report := rfl
@[simp] theorem State.applyImeSet_irqAck (s : State) (v : Bool) : (s.applyImeSet v).irqAck = s.irqAck := rfl
@[simp] theorem State.applyImeSet_draws (s : State) (v : Bool) : (s.applyImeSet v).draws = s.draws := rfl
@[simp] theorem State.applyImeSet_busLog (s : State) (v : Bool) : (s.applyImeSet v).busLog = s.busLog := rfl

@[simp] theorem State.wake_a (s : State) : (s.wake).a = s.a := rfl
@[simp] theorem State.wake_f (s : State) : (s.wake).f = s.f := rfl
@[simp] theorem State.wake_b (s : State) : (s.wake).b = s.b := rfl
@[simp] theorem State.wake_c (s : State) : (s.wake).c = s.c := rfl
@[simp] theorem State.wake_d (s : State) : (s.wake).d = s.d := rfl
@[simp] theorem State.wake_e (s : State) : (s.wake).e = s.e := rfl
@[simp] theorem State.wake_h (s : State) : (s.wake).h = s.h := rfl
@[simp] theorem State.wake_l (s : State) : (s.wake).l = s.l := rfl
@[simp] theorem State.wake_sp (s : State) : (s.wake).sp = s.sp := rfl
@[simp] theorem State.wake_pc (s : State) : (s.wake).pc = s.pc := rfl
@[simp] theorem State.wake_ime (s : State) : (s.wake).ime = s.ime := rfl
@[simp] theorem State.wake_imePending (s : State) : (s.wake).imePending = s.imePending := rfl
@[simp] theorem State.wake_mode (s : State) : (s.wake).mode = .running := rfl
@[simp] theorem State.wake_fault (s : State) : (s.wake).fault = s.fault := rfl
@[simp] theorem State.wake_mem (s : State) : (s.wake).mem = s.mem := rfl
@[simp] theorem State.wake_params (s : State) : (s.wake).params = s.params := rfl
@[simp] theorem State.wake_inputs (s : State) : (s.wake).inputs = s.inputs := rfl
@[simp] theorem State.wake_report (s : State) : (s.wake).report = s.report := rfl
@[simp] theorem State.wake_irqAck (s : State) : (s.wake).irqAck = s.irqAck := rfl
@[simp] theorem State.wake_draws (s : State) : (s.wake).draws = s.draws := rfl
@[simp] theorem State.wake_busLog (s : State) : (s.wake).busLog = s.busLog := rfl

@[simp] theorem State.reportFault_a (s : State) (x : IllegalOpcode) : (s.reportFault x).a = s.a := rfl
@[simp] theorem State.reportFault_f (s : State) (x : IllegalOpcode) : (s.reportFault x).f = s.f := rfl
@[simp] theorem State.reportFault_b (s : State) (x : IllegalOpcode) : (s.reportFault x).b = s.b := rfl
@[simp] theorem State.reportFault_c (s : State) (x : IllegalOpcode) : (s.reportFault x).c = s.c := rfl
@[simp] theorem State.reportFault_d (s : State) (x : IllegalOpcode) : (s.reportFault x).d = s.d := rfl
@[simp] theorem State.reportFault_e (s : State) (x : IllegalOpcode) : (s.reportFault x).e = s.e := rfl
@[simp] theorem State.reportFault_h (s : State) (x : IllegalOpcode) : (s.reportFault x).h = s.h := rfl
@[simp] theorem State.reportFault_l (s : State) (x : IllegalOpcode) : (s.reportFault x).l = s.l := rfl
@[simp] theorem State.reportFault_sp (s : State) (x : IllegalOpcode) : (s.reportFault x).sp = s.sp := rfl
@[simp] theorem State.reportFault_pc (s : State) (x : IllegalOpcode) : (s.reportFault x).pc = s.pc := rfl
@[simp] theorem State.reportFault_ime (s : State) (x : IllegalOpcode) : (s.reportFault x).ime = s.ime := rfl
@[simp] theorem State.reportFault_imePending (s : State) (x : IllegalOpcode) : (s.reportFault x).imePending = s.imePending := rfl
@[simp] theorem State.reportFault_mode (s : State) (x : IllegalOpcode) : (s.reportFault x).mode = s.mode := rfl
@[simp] theorem State.reportFault_fault (s : State) (x : IllegalOpcode) : (s.reportFault x).fault = s.fault := rfl
@[simp] theorem State.reportFault_mem (s : State) (x : IllegalOpcode) : (s.reportFault x).mem = s.mem := rfl
@[simp] theorem State.reportFault_params (s : State) (x : IllegalOpcode) : (s.reportFault x).params = s.params := rfl
@[simp] theorem State.reportFault_inputs (s : State) (x : IllegalOpcode) : (s.reportFault x).inputs = s.inputs := rfl
@[simp] theorem State.reportFault_report (s : State) (x : IllegalOpcode) : (s.reportFault x).report = .fault x := rfl
@[simp] theorem State.reportFault_irqAck (s : State) (x : IllegalOpcode) : (s.reportFault x).irqAck = s.irqAck := rfl
@[simp] theorem State.reportFault_draws (s : State) (x : IllegalOpcode) : (s.reportFault x).draws = s.draws := rfl
@[simp] theorem State.reportFault_busLog (s : State) (x : IllegalOpcode) : (s.reportFault x).busLog = s.busLog := rfl

@[simp] theorem State.setReg_f (s : State) (r : Reg) (v : Byte) : (s.setReg r v).f = s.f := by
  cases r <;> rfl
@[simp] theorem State.setReg_sp (s : State) (r : Reg) (v : Byte) : (s.setReg r v).sp = s.sp := by
  cases r <;> rfl
@[simp] theorem State.setReg_pc (s : State) (r : Reg) (v : Byte) : (s.setReg r v).pc = s.pc := by
  cases r <;> rfl
@[simp] theorem State.setReg_ime (s : State) (r : Reg) (v : Byte) : (s.setReg r v).ime = s.ime := by
  cases r <;> rfl
@[simp] theorem State.setReg_imePending (s : State) (r : Reg) (v : Byte) : (s.setReg r v).imePending = s.imePending := by
  cases r <;> rfl
@[simp] theorem State.setReg_mode (s : State) (r : Reg) (v : Byte) : (s.setReg r v).mode = s.mode := by
  cases r <;> rfl
@[simp] theorem State.setReg_fault (s : State) (r : Reg) (v : Byte) : (s.setReg r v).fault = s.fault := by
  cases r <;> rfl
@[simp] theorem State.setReg_mem (s : State) (r : Reg) (v : Byte) : (s.setReg r v).mem = s.mem := by
  cases r <;> rfl
@[simp] theorem State.setReg_params (s : State) (r : Reg) (v : Byte) : (s.setReg r v).params = s.params := by
  cases r <;> rfl
@[simp] theorem State.setReg_inputs (s : State) (r : Reg) (v : Byte) : (s.setReg r v).inputs = s.inputs := by
  cases r <;> rfl
@[simp] theorem State.setReg_report (s : State) (r : Reg) (v : Byte) : (s.setReg r v).report = s.report := by
  cases r <;> rfl
@[simp] theorem State.setReg_irqAck (s : State) (r : Reg) (v : Byte) : (s.setReg r v).irqAck = s.irqAck := by
  cases r <;> rfl
@[simp] theorem State.setReg_draws (s : State) (r : Reg) (v : Byte) : (s.setReg r v).draws = s.draws := by
  cases r <;> rfl
@[simp] theorem State.setReg_busLog (s : State) (r : Reg) (v : Byte) : (s.setReg r v).busLog = s.busLog := by
  cases r <;> rfl

/-- What every register reads after a register is written. -/
@[simp] theorem State.reg_setReg (s : State) (r q : Reg) (v : Byte) :
    (s.setReg r v).reg q = if q = r then v else s.reg q := by
  cases r <;> cases q <;> rfl

@[simp] theorem State.reg_a (s : State) : s.reg .a = s.a := rfl
@[simp] theorem State.reg_b (s : State) : s.reg .b = s.b := rfl
@[simp] theorem State.reg_c (s : State) : s.reg .c = s.c := rfl
@[simp] theorem State.reg_d (s : State) : s.reg .d = s.d := rfl
@[simp] theorem State.reg_e (s : State) : s.reg .e = s.e := rfl
@[simp] theorem State.reg_h (s : State) : s.reg .h = s.h := rfl
@[simp] theorem State.reg_l (s : State) : s.reg .l = s.l := rfl

@[simp] theorem State.setFlags_reg (s : State) (z n hc cy : Bool) (q : Reg) : (s.setFlags z n hc cy).reg q = s.reg q := by
  cases q <;> rfl
@[simp] theorem State.took_reg (s : State) (k : Nat) (q : Reg) : (s.took k).reg q = s.reg q := by
  cases q <;> rfl
@[simp] theorem State.jump_reg (s : State) (v : Word) (q : Reg) : (s.jump v).reg q = s.reg q := by
  cases q <;> rfl
@[simp] theorem State.setSP_reg (s : State) (v : Word) (q : Reg) : (s.setSP v).reg q = s.reg q := by
  cases q <;> rfl
@[simp] theorem State.raiseIllegalOpcode_reg (s : State) (op : Byte) (p : Word) (q : Reg) : (s.raiseIllegalOpcode op p).reg q = s.reg q := by
  cases q <;> rfl
@[simp] theorem State.applyImeSet_reg (s : State) (v : Bool) (q : Reg) : (s.applyImeSet v).reg q = s.reg q := by
  cases q <;> rfl
@[simp] theorem State.wake_reg (s : State) (q : Reg) : (s.wake).reg q = s.reg q := by
  cases q <;> rfl
@[simp] theorem State.reportFault_reg (s : State) (x : IllegalOpcode) (q : Reg) : (s.reportFault x).reg q = s.reg q := by
  cases q <;> rfl

@[simp] theorem State.setFlags_hl (s : State) (z n hc cy : Bool) : (s.setFlags z n hc cy).hl = s.hl := rfl
@[simp] theorem State.took_hl (s : State) (k : Nat) : (s.took k).hl = s.hl := rfl
@[simp] theorem State.jump_hl (s : State) (v : Word) : (s.jump v).hl = s.hl := rfl
@[simp] theorem State.setSP_hl (s : State) (v : Word) : (s.setSP v).hl = s.hl := rfl
@[simp] theorem State.setBC_hl (s : State) (v : Word) : (s.setBC v).hl = s.hl := rfl
@[simp] theorem State.setDE_hl (s : State) (v : Word) : (s.setDE v).hl = s.hl := rfl
@[simp] theorem State.setAF_hl (s : State) (v : Word) : (s.setAF v).hl = s.hl := rfl
@[simp] theorem State.raiseIllegalOpcode_hl (s : State) (op : Byte) (p : Word) : (s.raiseIllegalOpcode op p).hl = s.hl := rfl
@[simp] theorem State.applyImeSet_hl (s : State) (v : Bool) : (s.applyImeSet v).hl = s.hl := rfl
@[simp] theorem State.wake_hl (s : State) : (s.wake).hl = s.hl := rfl
@[simp] theorem State.reportFault_hl (s : State) (x : IllegalOpcode) : (s.reportFault x).hl = s.hl := rfl

/-- The pair HL after it is written. -/
@[simp] theorem State.setHL_hl (s : State) (v : Word) : (s.setHL v).hl = v := joinBytes_halves v

end Sys2Proof.Machine
end

