-- ==== Sys2Proof/Laws/Bus.lean ====
section
/-! SUPPORT. What one bus access, a push and a pop can do: the answers of the two buses (spec/20_memory.md R62), and the
fields that no access touches. -/

namespace Sys2Proof.Machine

/-- The plain array answers from memory and changes nothing. -/
theorem State.busRead_plain (s : State) (addr : Word) (h : s.params.bus = .plain) :
    s.busRead addr = (s.mem.read addr, s) := by
  simp only [State.busRead, h]

/-- The oracle answers the next free byte and records the access. -/
theorem State.busRead_oracle (s : State) (addr : Word) (h : s.params.bus = .oracle) :
    s.busRead addr = (Config.busDraw s.draws,
      { s with draws := s.draws + 1, busLog := s.busLog ++ [.read addr (Config.busDraw s.draws)] }) := by
  simp only [State.busRead, h]

/-- The plain array stores the byte. -/
theorem State.busWrite_plain (s : State) (addr : Word) (v : Byte) (h : s.params.bus = .plain) :
    s.busWrite addr v = { s with mem := s.mem.write addr v } := by
  simp only [State.busWrite, h]

/-- The oracle records the byte. -/
theorem State.busWrite_oracle (s : State) (addr : Word) (v : Byte) (h : s.params.bus = .oracle) :
    s.busWrite addr v = { s with busLog := s.busLog ++ [.write addr v] } := by
  simp only [State.busWrite, h]

/-- What a bus write does to memory: the one byte at its address under the plain array, nothing under the oracle. -/
theorem State.busWrite_mem (s : State) (addr : Word) (v : Byte) :
    (s.busWrite addr v).mem = s.mem.write addr v ∨ (s.busWrite addr v).mem = s.mem := by
  unfold State.busWrite
  cases s.params.bus
  · exact .inl rfl
  · exact .inr rfl

@[simp] theorem State.busRead_a (s : State) (p : Word) : (s.busRead p).2.a = s.a := by
  unfold State.busRead
  cases s.params.bus <;> rfl
@[simp] theorem State.busRead_f (s : State) (p : Word) : (s.busRead p).2.f = s.f := by
  unfold State.busRead
  cases s.params.bus <;> rfl
@[simp] theorem State.busRead_b (s : State) (p : Word) : (s.busRead p).2.b = s.b := by
  unfold State.busRead
  cases s.params.bus <;> rfl
@[simp] theorem State.busRead_c (s : State) (p : Word) : (s.busRead p).2.c = s.c := by
  unfold State.busRead
  cases s.params.bus <;> rfl
@[simp] theorem State.busRead_d (s : State) (p : Word) : (s.busRead p).2.d = s.d := by
  unfold State.busRead
  cases s.params.bus <;> rfl
@[simp] theorem State.busRead_e (s : State) (p : Word) : (s.busRead p).2.e = s.e := by
  unfold State.busRead
  cases s.params.bus <;> rfl
@[simp] theorem State.busRead_h (s : State) (p : Word) : (s.busRead p).2.h = s.h := by
  unfold State.busRead
  cases s.params.bus <;> rfl
@[simp] theorem State.busRead_l (s : State) (p : Word) : (s.busRead p).2.l = s.l := by
  unfold State.busRead
  cases s.params.bus <;> rfl
@[simp] theorem State.busRead_sp (s : State) (p : Word) : (s.busRead p).2.sp = s.sp := by
  unfold State.busRead
  cases s.params.bus <;> rfl
@[simp] theorem State.busRead_pc (s : State) (p : Word) : (s.busRead p).2.pc = s.pc := by
  unfold State.busRead
  cases s.params.bus <;> rfl
@[simp] theorem State.busRead_ime (s : State) (p : Word) : (s.busRead p).2.ime = s.ime := by
  unfold State.busRead
  cases s.params.bus <;> rfl
@[simp] theorem State.busRead_imePending (s : State) (p : Word) : (s.busRead p).2.imePending = s.imePending := by
  unfold State.busRead
  cases s.params.bus <;> rfl
@[simp] theorem State.busRead_mode (s : State) (p : Word) : (s.busRead p).2.mode = s.mode := by
  unfold State.busRead
  cases s.params.bus <;> rfl
@[simp] theorem State.busRead_fault (s : State) (p : Word) : (s.busRead p).2.fault = s.fault := by
  unfold State.busRead
  cases s.params.bus <;> rfl
@[simp] theorem State.busRead_mem (s : State) (p : Word) : (s.busRead p).2.mem = s.mem := by
  unfold State.busRead
  cases s.params.bus <;> rfl
@[simp] theorem State.busRead_params (s : State) (p : Word) : (s.busRead p).2.params = s.params := by
  unfold State.busRead
  cases s.params.bus <;> rfl
@[simp] theorem State.busRead_inputs (s : State) (p : Word) : (s.busRead p).2.inputs = s.inputs := by
  unfold State.busRead
  cases s.params.bus <;> rfl
@[simp] theorem State.busRead_report (s : State) (p : Word) : (s.busRead p).2.report = s.report := by
  unfold State.busRead
  cases s.params.bus <;> rfl
@[simp] theorem State.busRead_irqAck (s : State) (p : Word) : (s.busRead p).2.irqAck = s.irqAck := by
  unfold State.busRead
  cases s.params.bus <;> rfl

@[simp] theorem State.busWrite_a (s : State) (p : Word) (v : Byte) : (s.busWrite p v).a = s.a := by
  unfold State.busWrite
  cases s.params.bus <;> rfl
@[simp] theorem State.busWrite_f (s : State) (p : Word) (v : Byte) : (s.busWrite p v).f = s.f := by
  unfold State.busWrite
  cases s.params.bus <;> rfl
@[simp] theorem State.busWrite_b (s : State) (p : Word) (v : Byte) : (s.busWrite p v).b = s.b := by
  unfold State.busWrite
  cases s.params.bus <;> rfl
@[simp] theorem State.busWrite_c (s : State) (p : Word) (v : Byte) : (s.busWrite p v).c = s.c := by
  unfold State.busWrite
  cases s.params.bus <;> rfl
@[simp] theorem State.busWrite_d (s : State) (p : Word) (v : Byte) : (s.busWrite p v).d = s.d := by
  unfold State.busWrite
  cases s.params.bus <;> rfl
@[simp] theorem State.busWrite_e (s : State) (p : Word) (v : Byte) : (s.busWrite p v).e = s.e := by
  unfold State.busWrite
  cases s.params.bus <;> rfl
@[simp] theorem State.busWrite_h (s : State) (p : Word) (v : Byte) : (s.busWrite p v).h = s.h := by
  unfold State.busWrite
  cases s.params.bus <;> rfl
@[simp] theorem State.busWrite_l (s : State) (p : Word) (v : Byte) : (s.busWrite p v).l = s.l := by
  unfold State.busWrite
  cases s.params.bus <;> rfl
@[simp] theorem State.busWrite_sp (s : State) (p : Word) (v : Byte) : (s.busWrite p v).sp = s.sp := by
  unfold State.busWrite
  cases s.params.bus <;> rfl
@[simp] theorem State.busWrite_pc (s : State) (p : Word) (v : Byte) : (s.busWrite p v).pc = s.pc := by
  unfold State.busWrite
  cases s.params.bus <;> rfl
@[simp] theorem State.busWrite_ime (s : State) (p : Word) (v : Byte) : (s.busWrite p v).ime = s.ime := by
  unfold State.busWrite
  cases s.params.bus <;> rfl
@[simp] theorem State.busWrite_imePending (s : State) (p : Word) (v : Byte) : (s.busWrite p v).imePending = s.imePending := by
  unfold State.busWrite
  cases s.params.bus <;> rfl
@[simp] theorem State.busWrite_mode (s : State) (p : Word) (v : Byte) : (s.busWrite p v).mode = s.mode := by
  unfold State.busWrite
  cases s.params.bus <;> rfl
@[simp] theorem State.busWrite_fault (s : State) (p : Word) (v : Byte) : (s.busWrite p v).fault = s.fault := by
  unfold State.busWrite
  cases s.params.bus <;> rfl
@[simp] theorem State.busWrite_params (s : State) (p : Word) (v : Byte) : (s.busWrite p v).params = s.params := by
  unfold State.busWrite
  cases s.params.bus <;> rfl
@[simp] theorem State.busWrite_inputs (s : State) (p : Word) (v : Byte) : (s.busWrite p v).inputs = s.inputs := by
  unfold State.busWrite
  cases s.params.bus <;> rfl
@[simp] theorem State.busWrite_report (s : State) (p : Word) (v : Byte) : (s.busWrite p v).report = s.report := by
  unfold State.busWrite
  cases s.params.bus <;> rfl
@[simp] theorem State.busWrite_irqAck (s : State) (p : Word) (v : Byte) : (s.busWrite p v).irqAck = s.irqAck := by
  unfold State.busWrite
  cases s.params.bus <;> rfl
@[simp] theorem State.busWrite_draws (s : State) (p : Word) (v : Byte) : (s.busWrite p v).draws = s.draws := by
  unfold State.busWrite
  cases s.params.bus <;> rfl

@[simp] theorem State.busRead_reg (s : State) (p : Word) (q : Reg) : (s.busRead p).2.reg q = s.reg q := by
  cases q <;> simp

@[simp] theorem State.busWrite_reg (s : State) (p : Word) (v : Byte) (q : Reg) :
    (s.busWrite p v).reg q = s.reg q := by
  cases q <;> simp

@[simp] theorem State.busRead_hl (s : State) (p : Word) : (s.busRead p).2.hl = s.hl := by
  simp [State.hl]

@[simp] theorem State.busWrite_hl (s : State) (p : Word) (v : Byte) : (s.busWrite p v).hl = s.hl := by
  simp [State.hl]

/-- SP after a push (R68). -/
@[simp] theorem State.push16_sp (s : State) (v : Word) : (s.push16 v).sp = s.sp - 2 := by
  simp only [State.push16, State.busWrite_sp]
  rw [BitVec.sub_sub]
  rfl

/-- SP after a pop (R69). -/
@[simp] theorem State.pop16_sp (s : State) : s.pop16.2.sp = s.sp + 2 := by
  simp only [State.pop16, State.busRead_sp]
  rw [BitVec.add_assoc]
  rfl

@[simp] theorem State.push16_a (s : State) (v : Word) : (s.push16 v).a = s.a := by
  simp [State.push16]
@[simp] theorem State.push16_f (s : State) (v : Word) : (s.push16 v).f = s.f := by
  simp [State.push16]
@[simp] theorem State.push16_b (s : State) (v : Word) : (s.push16 v).b = s.b := by
  simp [State.push16]
@[simp] theorem State.push16_c (s : State) (v : Word) : (s.push16 v).c = s.c := by
  simp [State.push16]
@[simp] theorem State.push16_d (s : State) (v : Word) : (s.push16 v).d = s.d := by
  simp [State.push16]
@[simp] theorem State.push16_e (s : State) (v : Word) : (s.push16 v).e = s.e := by
  simp [State.push16]
@[simp] theorem State.push16_h (s : State) (v : Word) : (s.push16 v).h = s.h := by
  simp [State.push16]
@[simp] theorem State.push16_l (s : State) (v : Word) : (s.push16 v).l = s.l := by
  simp [State.push16]
@[simp] theorem State.push16_pc (s : State) (v : Word) : (s.push16 v).pc = s.pc := by
  simp [State.push16]
@[simp] theorem State.push16_ime (s : State) (v : Word) : (s.push16 v).ime = s.ime := by
  simp [State.push16]
@[simp] theorem State.push16_imePending (s : State) (v : Word) : (s.push16 v).imePending = s.imePending := by
  simp [State.push16]
@[simp] theorem State.push16_mode (s : State) (v : Word) : (s.push16 v).mode = s.mode := by
  simp [State.push16]
@[simp] theorem State.push16_fault (s : State) (v : Word) : (s.push16 v).fault = s.fault := by
  simp [State.push16]
@[simp] theorem State.push16_params (s : State) (v : Word) : (s.push16 v).params = s.params := by
  simp [State.push16]
@[simp] theorem State.push16_inputs (s : State) (v : Word) : (s.push16 v).inputs = s.inputs := by
  simp [State.push16]
@[simp] theorem State.push16_report (s : State) (v : Word) : (s.push16 v).report = s.report := by
  simp [State.push16]
@[simp] theorem State.push16_irqAck (s : State) (v : Word) : (s.push16 v).irqAck = s.irqAck := by
  simp [State.push16]
@[simp] theorem State.push16_draws (s : State) (v : Word) : (s.push16 v).draws = s.draws := by
  simp [State.push16]

@[simp] theorem State.pop16_a (s : State) : s.pop16.2.a = s.a := by
  simp [State.pop16]
@[simp] theorem State.pop16_f (s : State) : s.pop16.2.f = s.f := by
  simp [State.pop16]
@[simp] theorem State.pop16_b (s : State) : s.pop16.2.b = s.b := by
  simp [State.pop16]
@[simp] theorem State.pop16_c (s : State) : s.pop16.2.c = s.c := by
  simp [State.pop16]
@[simp] theorem State.pop16_d (s : State) : s.pop16.2.d = s.d := by
  simp [State.pop16]
@[simp] theorem State.pop16_e (s : State) : s.pop16.2.e = s.e := by
  simp [State.pop16]
@[simp] theorem State.pop16_h (s : State) : s.pop16.2.h = s.h := by
  simp [State.pop16]
@[simp] theorem State.pop16_l (s : State) : s.pop16.2.l = s.l := by
  simp [State.pop16]
@[simp] theorem State.pop16_pc (s : State) : s.pop16.2.pc = s.pc := by
  simp [State.pop16]
@[simp] theorem State.pop16_ime (s : State) : s.pop16.2.ime = s.ime := by
  simp [State.pop16]
@[simp] theorem State.pop16_imePending (s : State) : s.pop16.2.imePending = s.imePending := by
  simp [State.pop16]
@[simp] theorem State.pop16_mode (s : State) : s.pop16.2.mode = s.mode := by
  simp [State.pop16]
@[simp] theorem State.pop16_fault (s : State) : s.pop16.2.fault = s.fault := by
  simp [State.pop16]
@[simp] theorem State.pop16_mem (s : State) : s.pop16.2.mem = s.mem := by
  simp [State.pop16]
@[simp] theorem State.pop16_params (s : State) : s.pop16.2.params = s.params := by
  simp [State.pop16]
@[simp] theorem State.pop16_inputs (s : State) : s.pop16.2.inputs = s.inputs := by
  simp [State.pop16]
@[simp] theorem State.pop16_report (s : State) : s.pop16.2.report = s.report := by
  simp [State.pop16]
@[simp] theorem State.pop16_irqAck (s : State) : s.pop16.2.irqAck = s.irqAck := by
  simp [State.pop16]

/-- The whole of a push under the plain array (R68). -/
theorem State.push16_plain (s : State) (v : Word) (h : s.params.bus = .plain) :
    s.push16 v = { s with
      sp := s.sp - 2, mem := (s.mem.write (s.sp - 1) (hiByte v)).write (s.sp - 2) (loByte v) } := by
  have e : s.sp - 1 - 1 = s.sp - 2 := by rw [BitVec.sub_sub]; rfl
  simp only [State.push16, State.busWrite, h, e]

/-- The whole of a pop under the plain array (R69). -/
theorem State.pop16_plain (s : State) (h : s.params.bus = .plain) :
    s.pop16 = (joinBytes (s.mem.read (s.sp + 1)) (s.mem.read s.sp), { s with sp := s.sp + 2 }) := by
  have e : s.sp + 1 + 1 = s.sp + 2 := by rw [BitVec.add_assoc]; rfl
  simp only [State.pop16, State.busRead, h, e]

/-- One fetched byte under the plain array (R78). -/
theorem State.fetchByte_plain (s : State) (h : s.params.bus = .plain) :
    s.fetchByte = (s.mem.read s.pc, { s with pc := s.pc + 1 }) := by
  simp only [State.fetchByte, State.busRead, h]

@[simp] theorem State.fetchByte_a (s : State) : s.fetchByte.2.a = s.a := by
  simp [State.fetchByte]
@[simp] theorem State.fetchByte_f (s : State) : s.fetchByte.2.f = s.f := by
  simp [State.fetchByte]
@[simp] theorem State.fetchByte_b (s : State) : s.fetchByte.2.b = s.b := by
  simp [State.fetchByte]
@[simp] theorem State.fetchByte_c (s : State) : s.fetchByte.2.c = s.c := by
  simp [State.fetchByte]
@[simp] theorem State.fetchByte_d (s : State) : s.fetchByte.2.d = s.d := by
  simp [State.fetchByte]
@[simp] theorem State.fetchByte_e (s : State) : s.fetchByte.2.e = s.e := by
  simp [State.fetchByte]
@[simp] theorem State.fetchByte_h (s : State) : s.fetchByte.2.h = s.h := by
  simp [State.fetchByte]
@[simp] theorem State.fetchByte_l (s : State) : s.fetchByte.2.l = s.l := by
  simp [State.fetchByte]
@[simp] theorem State.fetchByte_sp (s : State) : s.fetchByte.2.sp = s.sp := by
  simp [State.fetchByte]
@[simp] theorem State.fetchByte_ime (s : State) : s.fetchByte.2.ime = s.ime := by
  simp [State.fetchByte]
@[simp] theorem State.fetchByte_imePending (s : State) : s.fetchByte.2.imePending = s.imePending := by
  simp [State.fetchByte]
@[simp] theorem State.fetchByte_mode (s : State) : s.fetchByte.2.mode = s.mode := by
  simp [State.fetchByte]
@[simp] theorem State.fetchByte_fault (s : State) : s.fetchByte.2.fault = s.fault := by
  simp [State.fetchByte]
@[simp] theorem State.fetchByte_mem (s : State) : s.fetchByte.2.mem = s.mem := by
  simp [State.fetchByte]
@[simp] theorem State.fetchByte_params (s : State) : s.fetchByte.2.params = s.params := by
  simp [State.fetchByte]
@[simp] theorem State.fetchByte_inputs (s : State) : s.fetchByte.2.inputs = s.inputs := by
  simp [State.fetchByte]
@[simp] theorem State.fetchByte_report (s : State) : s.fetchByte.2.report = s.report := by
  simp [State.fetchByte]
@[simp] theorem State.fetchByte_irqAck (s : State) : s.fetchByte.2.irqAck = s.irqAck := by
  simp [State.fetchByte]
@[simp] theorem State.fetchByte_pc (s : State) : s.fetchByte.2.pc = s.pc + 1 := by
  simp [State.fetchByte]

@[simp] theorem State.fetch_a (s : State) : s.fetch.2.a = s.a := by
  simp only [State.fetch]
  split <;> simp
@[simp] theorem State.fetch_f (s : State) : s.fetch.2.f = s.f := by
  simp only [State.fetch]
  split <;> simp
@[simp] theorem State.fetch_b (s : State) : s.fetch.2.b = s.b := by
  simp only [State.fetch]
  split <;> simp
@[simp] theorem State.fetch_c (s : State) : s.fetch.2.c = s.c := by
  simp only [State.fetch]
  split <;> simp
@[simp] theorem State.fetch_d (s : State) : s.fetch.2.d = s.d := by
  simp only [State.fetch]
  split <;> simp
@[simp] theorem State.fetch_e (s : State) : s.fetch.2.e = s.e := by
  simp only [State.fetch]
  split <;> simp
@[simp] theorem State.fetch_h (s : State) : s.fetch.2.h = s.h := by
  simp only [State.fetch]
  split <;> simp
@[simp] theorem State.fetch_l (s : State) : s.fetch.2.l = s.l := by
  simp only [State.fetch]
  split <;> simp
@[simp] theorem State.fetch_sp (s : State) : s.fetch.2.sp = s.sp := by
  simp only [State.fetch]
  split <;> simp
@[simp] theorem State.fetch_ime (s : State) : s.fetch.2.ime = s.ime := by
  simp only [State.fetch]
  split <;> simp
@[simp] theorem State.fetch_imePending (s : State) : s.fetch.2.imePending = s.imePending := by
  simp only [State.fetch]
  split <;> simp
@[simp] theorem State.fetch_mode (s : State) : s.fetch.2.mode = s.mode := by
  simp only [State.fetch]
  split <;> simp
@[simp] theorem State.fetch_fault (s : State) : s.fetch.2.fault = s.fault := by
  simp only [State.fetch]
  split <;> simp
@[simp] theorem State.fetch_mem (s : State) : s.fetch.2.mem = s.mem := by
  simp only [State.fetch]
  split <;> simp
@[simp] theorem State.fetch_params (s : State) : s.fetch.2.params = s.params := by
  simp only [State.fetch]
  split <;> simp
@[simp] theorem State.fetch_inputs (s : State) : s.fetch.2.inputs = s.inputs := by
  simp only [State.fetch]
  split <;> simp
@[simp] theorem State.fetch_report (s : State) : s.fetch.2.report = s.report := by
  simp only [State.fetch]
  split <;> simp
@[simp] theorem State.fetch_irqAck (s : State) : s.fetch.2.irqAck = s.irqAck := by
  simp only [State.fetch]
  split <;> simp

end Sys2Proof.Machine
end

