-- ==== Sys2Proof/Laws/Flags.lean ====
section
/-! SUPPORT. The flags read back from F after they are written (spec/10_state.md R22, R25). -/

namespace Sys2Proof.Machine

/-- F's low nibble is 0 in every packed value (R22). -/
theorem packFlags_lowNibble (z n hc cy : Bool) : packFlags z n hc cy &&& 0x0F#8 = 0#8 := by
  cases z <;> cases n <;> cases hc <;> cases cy <;> rfl

@[simp] theorem packFlags_z (z n hc cy : Bool) : (packFlags z n hc cy).getLsbD 7 = z := by
  cases z <;> cases n <;> cases hc <;> cases cy <;> rfl

@[simp] theorem packFlags_n (z n hc cy : Bool) : (packFlags z n hc cy).getLsbD 6 = n := by
  cases z <;> cases n <;> cases hc <;> cases cy <;> rfl

@[simp] theorem packFlags_h (z n hc cy : Bool) : (packFlags z n hc cy).getLsbD 5 = hc := by
  cases z <;> cases n <;> cases hc <;> cases cy <;> rfl

@[simp] theorem packFlags_c (z n hc cy : Bool) : (packFlags z n hc cy).getLsbD 4 = cy := by
  cases z <;> cases n <;> cases hc <;> cases cy <;> rfl

/-- A byte masked as `AF <- v` masks it has low nibble 0 (R24). -/
theorem masked_lowNibble (v : Byte) : (v &&& 0xF0#8) &&& 0x0F#8 = 0#8 := by
  rw [BitVec.and_assoc]
  exact BitVec.and_zero

@[simp] theorem State.setFlags_fZ (s : State) (z n hc cy : Bool) : (s.setFlags z n hc cy).fZ = z := packFlags_z z n hc cy

@[simp] theorem State.setFlags_fN (s : State) (z n hc cy : Bool) : (s.setFlags z n hc cy).fN = n := packFlags_n z n hc cy

@[simp] theorem State.setFlags_fH (s : State) (z n hc cy : Bool) : (s.setFlags z n hc cy).fH = hc := packFlags_h z n hc cy

@[simp] theorem State.setFlags_fC (s : State) (z n hc cy : Bool) : (s.setFlags z n hc cy).fC = cy := packFlags_c z n hc cy

end Sys2Proof.Machine
end

