-- ==== Sys2Proof/Laws/Memory.lean ====
section
/-! SUPPORT. The plain array as a list in canonical form: a read after a write, and that a write keeps the form. -/

namespace Sys2Proof.Machine

/-- A store leaves what every other address reads as alone, in canonical form or not. -/
theorem Memory.lookup_store_ne (m : Memory) (k j : Nat) (v : Byte) (h : k ≠ j) :
    Memory.lookup (Memory.store m k v) j = Memory.lookup m j := by
  induction m with
  | nil =>
    simp only [Memory.store]
    split
    · rfl
    · simp [Memory.lookup, h]
  | cons head tail ih =>
    simp only [Memory.store]
    by_cases hlt : head.1 < k
    · simp only [if_pos hlt, Memory.lookup, ih]
    · simp only [if_neg hlt]
      by_cases hk : head.1 = k <;> by_cases hv : v = Memory.unlisted <;> simp [Memory.lookup, hk, hv, h]

/-- An address below every listed one is unlisted. -/
theorem Memory.lookup_of_lt (m : Memory) (k : Nat) (h : ∀ c ∈ m, k < c.1) :
    Memory.lookup m k = Memory.unlisted := by
  induction m with
  | nil => rfl
  | cons head tail ih =>
    have h1 := h head (by simp)
    rw [Memory.lookup, if_neg (by omega)]
    exact ih fun c hc => h c (by simp [hc])

/-- In canonical form the addresses of the tail are above that of the head. -/
theorem Memory.wf_cons (head : Host.Cell) (tail : Memory) (h : Memory.wf (head :: tail) = true) :
    head.1 < 65536 ∧ head.2 ≠ Memory.unlisted ∧ (∀ c ∈ tail, head.1 < c.1) ∧ Memory.wf tail = true := by
  simp only [Memory.wf, Bool.and_eq_true, decide_eq_true_eq, List.all_eq_true, bne_iff_ne] at h
  exact ⟨h.1.1.1, h.1.1.2, h.1.2, h.2⟩

/-- The form a cell and a canonical memory above it make. -/
theorem Memory.cons_wf (head : Host.Cell) (tail : Memory) (hin : head.1 < 65536) (hv : head.2 ≠ Memory.unlisted)
    (hrise : ∀ c ∈ tail, head.1 < c.1) (htail : Memory.wf tail = true) : Memory.wf (head :: tail) = true := by
  simp only [Memory.wf, Bool.and_eq_true, decide_eq_true_eq, List.all_eq_true, bne_iff_ne]
  exact ⟨⟨⟨hin, hv⟩, hrise⟩, htail⟩

/-- A stored byte is read back from canonical memory. -/
theorem Memory.lookup_store_eq (m : Memory) (hm : m.wf = true) (k : Nat) (v : Byte) :
    Memory.lookup (Memory.store m k v) k = v := by
  induction m with
  | nil =>
    simp only [Memory.store]
    split
    · rename_i h; rw [h]; rfl
    · simp [Memory.lookup]
  | cons head tail ih =>
    obtain ⟨-, -, hrise, htail⟩ := Memory.wf_cons head tail hm
    simp only [Memory.store]
    by_cases hlt : head.1 < k
    · rw [if_pos hlt, Memory.lookup, if_neg (by omega), ih htail]
    · rw [if_neg hlt]
      by_cases hv : v = Memory.unlisted
      · rw [if_pos hv, hv]
        split
        · rename_i hk
          exact Memory.lookup_of_lt tail k fun c hc => hk ▸ hrise c hc
        · exact Memory.lookup_of_lt _ k fun c hc => by
            rcases List.mem_cons.mp hc with rfl | hc
            · omega
            · have := hrise c hc; omega
      · rw [if_neg hv]
        simp [Memory.lookup]

/-- Every address of a stored memory is the stored one or was there before. -/
theorem Memory.mem_store (m : Memory) (k : Nat) (v : Byte) (c : Host.Cell) (hc : c ∈ Memory.store m k v) :
    c.1 = k ∨ c ∈ m := by
  induction m with
  | nil =>
    simp only [Memory.store] at hc
    split at hc <;> simp_all
  | cons head tail ih =>
    simp only [Memory.store] at hc
    split at hc
    · rcases List.mem_cons.mp hc with rfl | hc
      · exact .inr (by simp)
      · exact (ih hc).imp id (fun h => by simp [h])
    · split at hc <;> split at hc
      · exact .inr (by simp [hc])
      · exact .inr hc
      · rcases List.mem_cons.mp hc with rfl | hc
        · exact .inl rfl
        · exact .inr (by simp [hc])
      · rcases List.mem_cons.mp hc with rfl | hc
        · exact .inl rfl
        · exact .inr hc

/-- A store keeps the canonical form. -/
theorem Memory.wf_store (m : Memory) (k : Nat) (v : Byte) (hk : k < 65536) (hm : m.wf = true) :
    (Memory.store m k v).wf = true := by
  induction m with
  | nil =>
    simp only [Memory.store]
    split
    · rfl
    · rename_i hv
      exact Memory.cons_wf _ _ hk hv (by simp) rfl
  | cons head tail ih =>
    obtain ⟨hin, hne, hrise, htail⟩ := Memory.wf_cons head tail hm
    simp only [Memory.store]
    split
    · rename_i hlt
      refine Memory.cons_wf _ _ hin hne (fun c hc => ?_) (ih htail)
      rcases Memory.mem_store tail k v c hc with h | h
      · omega
      · exact hrise c h
    · by_cases hkey : head.1 = k
      · rw [if_pos hkey]
        split
        · exact htail
        · rename_i hv
          exact Memory.cons_wf _ _ hk hv (fun c hc => hkey ▸ hrise c hc) htail
      · rw [if_neg hkey]
        split
        · exact hm
        · rename_i hv
          refine Memory.cons_wf _ _ hk hv (fun c hc => ?_) hm
          rcases List.mem_cons.mp hc with rfl | hc
          · show k < c.1
            omega
          · have := hrise c hc
            show k < c.1
            omega

/-- A write keeps the canonical form. -/
theorem Memory.wf_write (m : Memory) (addr : Word) (v : Byte) (hm : m.wf = true) : (m.write addr v).wf = true :=
  Memory.wf_store m addr.toNat v addr.isLt hm

/-- A write leaves every other address alone. -/
theorem Memory.read_write_ne (m : Memory) (a b : Word) (v : Byte) (h : a ≠ b) :
    (m.write a v).read b = m.read b :=
  Memory.lookup_store_ne m _ _ v fun e => h (BitVec.eq_of_toNat_eq e)

/-- A written byte is read back from canonical memory. -/
theorem Memory.read_write_eq (m : Memory) (hm : m.wf = true) (a : Word) (v : Byte) : (m.write a v).read a = v :=
  Memory.lookup_store_eq m hm _ v

theorem State.reset_mem_wf : State.reset.mem.wf = true := rfl

end Sys2Proof.Machine
end

