-- ==== Sys2Proof/Laws/Control.lean ====
section
/-! SUPPORT. What the outside's transitions and the delayed set of IME can do to a state, said once, and what keeps the
invariant of Safety.lean. -/

namespace Sys2Proof.Machine

/-- The outside's writes change memory alone. -/
theorem State.externalWrites_eq (ws : List (Word × Byte)) (s : State) :
    ws.foldl State.externalWrite s = { s with mem := (ws.foldl State.externalWrite s).mem } := by
  induction ws generalizing s with
  | nil => rfl
  | cons w ws ih =>
    rw [List.foldl_cons, ih]
    unfold State.externalWrite
    cases s.params.bus <;> rfl

/-- The outside's writes keep memory canonical. -/
theorem State.externalWrites_wf (ws : List (Word × Byte)) (s : State) (h : s.mem.wf = true) :
    (ws.foldl State.externalWrite s).mem.wf = true := by
  induction ws generalizing s with
  | nil => exact h
  | cons w ws ih =>
    refine ih _ ?_
    unfold State.externalWrite
    cases s.params.bus
    · exact Memory.wf_write _ _ _ h
    · exact h

/-- A step's beginning, as one record update: a Reset gives the reset values, an ImeSet gives IME, and nothing else
changes but memory and the ports. -/
theorem State.outside_eq (s : State) :
    s.outside =
      (let m := (s.stimulus.writes.foldl State.externalWrite { s with inputs := s.inputs.tail, irqAck := false }).mem
       let t := if s.stimulus.reset = true then
           { State.reset with
             mem := m, params := s.params, inputs := s.inputs.tail, draws := s.draws, busLog := s.busLog }
         else { s with mem := m, inputs := s.inputs.tail, irqAck := false }
       match s.stimulus.imeSet with
       | some b => { t with ime := b, imePending := false }
       | none => t) := by
  unfold State.outside
  simp only []
  rw [State.externalWrites_eq]
  cases s.stimulus.reset <;> cases s.stimulus.imeSet <;> rfl

@[simp] theorem State.outside_params (s : State) : s.outside.params = s.params := by
  rw [State.outside_eq]
  cases s.stimulus.reset <;> cases s.stimulus.imeSet <;> rfl

@[simp] theorem State.outside_inputs (s : State) : s.outside.inputs = s.inputs.tail := by
  rw [State.outside_eq]
  cases s.stimulus.reset <;> cases s.stimulus.imeSet <;> rfl

@[simp] theorem State.outside_irqAck (s : State) : s.outside.irqAck = false := by
  rw [State.outside_eq]
  cases s.stimulus.reset <;> cases s.stimulus.imeSet <;> rfl

/-- Without Reset the outside leaves the fault latch alone (R351, R381). -/
theorem State.outside_fault (s : State) (h : s.stimulus.reset = false) : s.outside.fault = s.fault := by
  rw [State.outside_eq, h]
  cases s.stimulus.imeSet <;> rfl

/-- F's low nibble is 0 at reset (R27). -/
theorem State.reset_flagsClean : State.reset.flagsClean := rfl

/-- The outside keeps the invariant. -/
theorem State.outside_inv (s : State) (h : s.Inv) : s.outside.Inv := by
  have hm := State.externalWrites_wf s.stimulus.writes { s with inputs := s.inputs.tail, irqAck := false } h.1
  rw [State.outside_eq]
  cases s.stimulus.reset <;> cases s.stimulus.imeSet <;> first | exact ⟨hm, h.2⟩ | exact ⟨hm, State.reset_flagsClean⟩

/-- A pending EI of an earlier step takes effect unless the step latched a fault or withdrew it. -/
theorem State.settleIme_cases (s : State) (p : Bool) :
    (s.fault = none ∧ p = true ∧ s.imePending = true ∧ s.settleIme p = { s with ime := true, imePending := false }) ∨
    (¬ (s.fault = none ∧ p = true ∧ s.imePending = true) ∧ s.settleIme p = s) := by
  unfold State.settleIme
  cases s.fault <;> cases p <;> cases s.imePending <;> simp

/-- The delayed set of IME keeps the invariant. -/
theorem State.settleIme_inv (s : State) (p : Bool) (h : s.Inv) : (s.settleIme p).Inv := by
  rcases State.settleIme_cases s p with ⟨_, _, _, e⟩ | ⟨_, e⟩ <;> rw [e] <;> exact h

/-- A bus read keeps the invariant. -/
theorem State.busRead_inv (s : State) (addr : Word) (h : s.Inv) : (s.busRead addr).2.Inv := by
  simpa [State.Inv, State.flagsClean] using h

/-- A bus write keeps the invariant. -/
theorem State.busWrite_inv (s : State) (addr : Word) (v : Byte) (h : s.Inv) : (s.busWrite addr v).Inv := by
  refine ⟨?_, by simpa [State.flagsClean] using h.2⟩
  rcases State.busWrite_mem s addr v with e | e <;> rw [e]
  · exact Memory.wf_write _ _ _ h.1
  · exact h.1

/-- A push keeps the invariant. -/
theorem State.push16_inv (s : State) (v : Word) (h : s.Inv) : (s.push16 v).Inv :=
  State.busWrite_inv _ _ _ (State.busWrite_inv _ _ _ h)

/-- A pop keeps the invariant. -/
theorem State.pop16_inv (s : State) (h : s.Inv) : s.pop16.2.Inv :=
  State.busRead_inv _ _ (State.busRead_inv _ _ h)

/-- A longer run is safe when its first state is and the run from the state after one step is. -/
theorem State.safeRun_succ (s : State) (n : Nat) :
    s.SafeRun (n + 1) ↔ s.Safe ∧ ∃ t, step s = .next t ∧ t.SafeRun n := Iff.rfl

/-- A safe run starts in a safe state. -/
theorem State.SafeRun.safe {s : State} {n : Nat} (h : s.SafeRun n) : s.Safe := by
  cases n with
  | zero => exact h
  | succ n => exact h.1

end Sys2Proof.Machine
end

