-- ==== Sys2Proof/Laws/Cycles.lean ====
section
/-! SUPPORT. The lookups in the default table of costs (spec/70_reset_and_hazards.md R400) as its own formulas. -/

namespace Sys2Proof

/-- The default table's taken costs are those of `standardTaken`. -/
@[simp] theorem CycleTable.standard_takenOf (op : Byte) : CycleTable.standard.takenOf op = standardTaken op := by
  simp [CycleTable.takenOf, CycleTable.standard]

/-- The default table's extended costs are those of `standardExtended`. -/
@[simp] theorem CycleTable.standard_extendedOf (op2 : Byte) :
    CycleTable.standard.extendedOf op2 = standardExtended op2 := by
  simp [CycleTable.extendedOf, CycleTable.standard]

end Sys2Proof
end

