-- ==== Sys2Proof/Laws/Decode.lean ====
section
/-! SUPPORT. What the decoder's pieces give, one lemma each. -/

namespace Sys2Proof

/-- An instruction has at most two bytes after its first (R90). -/
theorem operandBytes_le (p : Params) (sh : Shape) : operandBytes p sh ≤ 2 := by
  cases sh <;> simp only [operandBytes] <;> first | omega | (cases p.stopLength <;> decide)

end Sys2Proof
end

