-- ==== Sys2Proof/Laws/Effect.lean ====
section
/-! SUPPORT. Which shared operation each instruction is, with its operands, and that `exec` is that operation: a proof
over all instructions goes by cases on `Effect`, not on the 512 constructors of `Instr`. -/

namespace Sys2Proof.Machine

/-- The shared operations of the meanings, with their operands. -/
inductive Effect where
  | loadReg (dst src : Reg)
  | loadImm (dst : Reg) (n : Byte)
  | loadFrom (dst : Reg) (addr : State → Word)
  | storeTo (addr : State → Word) (v : State → Byte)
  | loadAndMove (step : Word)
  | storeAndMove (step : Word)
  | loadPair (dst : Pair) (nn : Word)
  | storeSP (addr : Word)
  | loadSPFromHL
  | loadHLFromSPPlus (e : Byte)
  | pushPair (p : StackPair)
  | popPair (p : StackPair)
  | alu (op : AluOp) (src : Source)
  | increment (t : Target)
  | decrement (t : Target)
  | addHL (p : Pair)
  | movePair (p : Pair) (step : Word)
  | addSP (e : Byte)
  | rotateA (op : RotOp)
  | rotate (op : RotOp) (t : Target)
  | testBit (bit : Nat) (t : Target)
  | resetBit (bit : Nat) (t : Target)
  | setBit (bit : Nat) (t : Target)
  | jump (target : State → Word)
  | jumpIf (cc : Cond) (target : State → Word)
  | call (target : Word)
  | callIf (cc : Cond) (target : Word)
  | ret
  | returnIf (cc : Cond)
  | reti
  | nop
  | halt
  | stop
  | di
  | ei
  | daa
  | cpl
  | scf
  | ccf
  | illegal (opcode : Byte)
  | extended (op2 : Byte)

/-- What a shared operation does to the state, the report of the step apart. -/
def Effect.run : Effect → State → State
  | .loadReg dst src, s => Sys2Proof.Machine.loadReg dst src s
  | .loadImm dst n, s => Sys2Proof.Machine.loadImm dst n s
  | .loadFrom dst addr, s => Sys2Proof.Machine.loadFrom dst (addr s) s
  | .storeTo addr v, s => Sys2Proof.Machine.storeTo (addr s) (v s) s
  | .loadAndMove step, s => Sys2Proof.Machine.loadAndMove step s
  | .storeAndMove step, s => Sys2Proof.Machine.storeAndMove step s
  | .loadPair dst nn, s => Sys2Proof.Machine.loadPair dst nn s
  | .storeSP addr, s => s.busWrite16 addr s.sp
  | .loadSPFromHL, s => s.setSP s.hl
  | .loadHLFromSPPlus e, s => Sys2Proof.Machine.loadHLFromSPPlus e s
  | .pushPair p, s => Sys2Proof.Machine.pushPair p s
  | .popPair p, s => Sys2Proof.Machine.popPair p s
  | .alu op src, s => aluA op src s
  | .increment t, s => Sys2Proof.Machine.increment t s
  | .decrement t, s => Sys2Proof.Machine.decrement t s
  | .addHL p, s => Sys2Proof.Machine.addHL p s
  | .movePair p step, s => Sys2Proof.Machine.movePair p step s
  | .addSP e, s => Sys2Proof.Machine.addSP e s
  | .rotateA op, s => Sys2Proof.Machine.rotateA op s
  | .rotate op t, s => Sys2Proof.Machine.rotate op t s
  | .testBit bit t, s => Sys2Proof.Machine.testBit bit t s
  | .resetBit bit t, s => Sys2Proof.Machine.resetBit bit t s
  | .setBit bit t, s => Sys2Proof.Machine.setBit bit t s
  | .jump target, s => s.jump (target s)
  | .jumpIf cc target, s => if s.cond cc then s.jump (target s) else s
  | .call target, s => callTo target s
  | .callIf cc target, s => if s.cond cc then callTo target s else s
  | .ret, s => returnTo s
  | .returnIf cc, s => if s.cond cc then returnTo s else s
  | .reti, s => s.returnFromInterrupt
  | .nop, s => s
  | .halt, s => { s with mode := .halted }
  | .stop, s => { s with mode := .stopped }
  | .di, s => { s with ime := false, imePending := false }
  | .ei, s => { s with imePending := true }
  | .daa, s => decimalAdjust s
  | .cpl, s => complementA s
  | .scf, s => s.setFlags s.fZ false false true
  | .ccf, s => s.setFlags s.fZ false false (!s.fC)
  | .illegal opcode, s => { s with fault := some { opcode := opcode, addr := s.pc - 1 } }
  | .extended op2, s => extendedAction op2 s

/-- The operation of each instruction. -/
def effectOf : Instr → Effect
  | .nop => .nop
  | .ld_BC_nn nn => .loadPair .bc nn
  | .ld_atBC_A => .storeTo State.bc State.a
  | .inc_BC => .movePair .bc 1
  | .inc_B => .increment (.reg .b)
  | .dec_B => .decrement (.reg .b)
  | .ld_B_n n => .loadImm .b n
  | .rlca => .rotateA .rlc
  | .ld_atNN_SP nn => .storeSP nn
  | .add_HL_BC => .addHL .bc
  | .ld_A_atBC => .loadFrom .a State.bc
  | .dec_BC => .movePair .bc (-1)
  | .inc_C => .increment (.reg .c)
  | .dec_C => .decrement (.reg .c)
  | .ld_C_n n => .loadImm .c n
  | .rrca => .rotateA .rrc
  | .stop _ => .stop
  | .ld_DE_nn nn => .loadPair .de nn
  | .ld_atDE_A => .storeTo State.de State.a
  | .inc_DE => .movePair .de 1
  | .inc_D => .increment (.reg .d)
  | .dec_D => .decrement (.reg .d)
  | .ld_D_n n => .loadImm .d n
  | .rla => .rotateA .rl
  | .jr_e e => .jump (fun s => (s.pc + sext16 e))
  | .add_HL_DE => .addHL .de
  | .ld_A_atDE => .loadFrom .a State.de
  | .dec_DE => .movePair .de (-1)
  | .inc_E => .increment (.reg .e)
  | .dec_E => .decrement (.reg .e)
  | .ld_E_n n => .loadImm .e n
  | .rra => .rotateA .rr
  | .jr_NZ_e e => .jumpIf .nz (fun s => (s.pc + sext16 e))
  | .ld_HL_nn nn => .loadPair .hl nn
  | .ld_atHLinc_A => .storeAndMove 1
  | .inc_HL => .movePair .hl 1
  | .inc_H => .increment (.reg .h)
  | .dec_H => .decrement (.reg .h)
  | .ld_H_n n => .loadImm .h n
  | .daa => .daa
  | .jr_Z_e e => .jumpIf .z (fun s => (s.pc + sext16 e))
  | .add_HL_HL => .addHL .hl
  | .ld_A_atHLinc => .loadAndMove 1
  | .dec_HL => .movePair .hl (-1)
  | .inc_L => .increment (.reg .l)
  | .dec_L => .decrement (.reg .l)
  | .ld_L_n n => .loadImm .l n
  | .cpl => .cpl
  | .jr_NC_e e => .jumpIf .nc (fun s => (s.pc + sext16 e))
  | .ld_SP_nn nn => .loadPair .sp nn
  | .ld_atHLdec_A => .storeAndMove (-1)
  | .inc_SP => .movePair .sp 1
  | .inc_atHL => .increment .atHL
  | .dec_atHL => .decrement .atHL
  | .ld_atHL_n n => .storeTo State.hl (fun _ => n)
  | .scf => .scf
  | .jr_C_e e => .jumpIf .c (fun s => (s.pc + sext16 e))
  | .add_HL_SP => .addHL .sp
  | .ld_A_atHLdec => .loadAndMove (-1)
  | .dec_SP => .movePair .sp (-1)
  | .inc_A => .increment (.reg .a)
  | .dec_A => .decrement (.reg .a)
  | .ld_A_n n => .loadImm .a n
  | .ccf => .ccf
  | .ld_B_B => .loadReg .b .b
  | .ld_B_C => .loadReg .b .c
  | .ld_B_D => .loadReg .b .d
  | .ld_B_E => .loadReg .b .e
  | .ld_B_H => .loadReg .b .h
  | .ld_B_L => .loadReg .b .l
  | .ld_B_atHL => .loadFrom .b State.hl
  | .ld_B_A => .loadReg .b .a
  | .ld_C_B => .loadReg .c .b
  | .ld_C_C => .loadReg .c .c
  | .ld_C_D => .loadReg .c .d
  | .ld_C_E => .loadReg .c .e
  | .ld_C_H => .loadReg .c .h
  | .ld_C_L => .loadReg .c .l
  | .ld_C_atHL => .loadFrom .c State.hl
  | .ld_C_A => .loadReg .c .a
  | .ld_D_B => .loadReg .d .b
  | .ld_D_C => .loadReg .d .c
  | .ld_D_D => .loadReg .d .d
  | .ld_D_E => .loadReg .d .e
  | .ld_D_H => .loadReg .d .h
  | .ld_D_L => .loadReg .d .l
  | .ld_D_atHL => .loadFrom .d State.hl
  | .ld_D_A => .loadReg .d .a
  | .ld_E_B => .loadReg .e .b
  | .ld_E_C => .loadReg .e .c
  | .ld_E_D => .loadReg .e .d
  | .ld_E_E => .loadReg .e .e
  | .ld_E_H => .loadReg .e .h
  | .ld_E_L => .loadReg .e .l
  | .ld_E_atHL => .loadFrom .e State.hl
  | .ld_E_A => .loadReg .e .a
  | .ld_H_B => .loadReg .h .b
  | .ld_H_C => .loadReg .h .c
  | .ld_H_D => .loadReg .h .d
  | .ld_H_E => .loadReg .h .e
  | .ld_H_H => .loadReg .h .h
  | .ld_H_L => .loadReg .h .l
  | .ld_H_atHL => .loadFrom .h State.hl
  | .ld_H_A => .loadReg .h .a
  | .ld_L_B => .loadReg .l .b
  | .ld_L_C => .loadReg .l .c
  | .ld_L_D => .loadReg .l .d
  | .ld_L_E => .loadReg .l .e
  | .ld_L_H => .loadReg .l .h
  | .ld_L_L => .loadReg .l .l
  | .ld_L_atHL => .loadFrom .l State.hl
  | .ld_L_A => .loadReg .l .a
  | .ld_atHL_B => .storeTo State.hl State.b
  | .ld_atHL_C => .storeTo State.hl State.c
  | .ld_atHL_D => .storeTo State.hl State.d
  | .ld_atHL_E => .storeTo State.hl State.e
  | .ld_atHL_H => .storeTo State.hl State.h
  | .ld_atHL_L => .storeTo State.hl State.l
  | .halt => .halt
  | .ld_atHL_A => .storeTo State.hl State.a
  | .ld_A_B => .loadReg .a .b
  | .ld_A_C => .loadReg .a .c
  | .ld_A_D => .loadReg .a .d
  | .ld_A_E => .loadReg .a .e
  | .ld_A_H => .loadReg .a .h
  | .ld_A_L => .loadReg .a .l
  | .ld_A_atHL => .loadFrom .a State.hl
  | .ld_A_A => .loadReg .a .a
  | .add_A_B => .alu .add (.reg .b)
  | .add_A_C => .alu .add (.reg .c)
  | .add_A_D => .alu .add (.reg .d)
  | .add_A_E => .alu .add (.reg .e)
  | .add_A_H => .alu .add (.reg .h)
  | .add_A_L => .alu .add (.reg .l)
  | .add_A_atHL => .alu .add .atHL
  | .add_A_A => .alu .add (.reg .a)
  | .adc_A_B => .alu .adc (.reg .b)
  | .adc_A_C => .alu .adc (.reg .c)
  | .adc_A_D => .alu .adc (.reg .d)
  | .adc_A_E => .alu .adc (.reg .e)
  | .adc_A_H => .alu .adc (.reg .h)
  | .adc_A_L => .alu .adc (.reg .l)
  | .adc_A_atHL => .alu .adc .atHL
  | .adc_A_A => .alu .adc (.reg .a)
  | .sub_B => .alu .sub (.reg .b)
  | .sub_C => .alu .sub (.reg .c)
  | .sub_D => .alu .sub (.reg .d)
  | .sub_E => .alu .sub (.reg .e)
  | .sub_H => .alu .sub (.reg .h)
  | .sub_L => .alu .sub (.reg .l)
  | .sub_atHL => .alu .sub .atHL
  | .sub_A => .alu .sub (.reg .a)
  | .sbc_A_B => .alu .sbc (.reg .b)
  | .sbc_A_C => .alu .sbc (.reg .c)
  | .sbc_A_D => .alu .sbc (.reg .d)
  | .sbc_A_E => .alu .sbc (.reg .e)
  | .sbc_A_H => .alu .sbc (.reg .h)
  | .sbc_A_L => .alu .sbc (.reg .l)
  | .sbc_A_atHL => .alu .sbc .atHL
  | .sbc_A_A => .alu .sbc (.reg .a)
  | .and_B => .alu .and (.reg .b)
  | .and_C => .alu .and (.reg .c)
  | .and_D => .alu .and (.reg .d)
  | .and_E => .alu .and (.reg .e)
  | .and_H => .alu .and (.reg .h)
  | .and_L => .alu .and (.reg .l)
  | .and_atHL => .alu .and .atHL
  | .and_A => .alu .and (.reg .a)
  | .xor_B => .alu .xor (.reg .b)
  | .xor_C => .alu .xor (.reg .c)
  | .xor_D => .alu .xor (.reg .d)
  | .xor_E => .alu .xor (.reg .e)
  | .xor_H => .alu .xor (.reg .h)
  | .xor_L => .alu .xor (.reg .l)
  | .xor_atHL => .alu .xor .atHL
  | .xor_A => .alu .xor (.reg .a)
  | .or_B => .alu .or (.reg .b)
  | .or_C => .alu .or (.reg .c)
  | .or_D => .alu .or (.reg .d)
  | .or_E => .alu .or (.reg .e)
  | .or_H => .alu .or (.reg .h)
  | .or_L => .alu .or (.reg .l)
  | .or_atHL => .alu .or .atHL
  | .or_A => .alu .or (.reg .a)
  | .cp_B => .alu .cp (.reg .b)
  | .cp_C => .alu .cp (.reg .c)
  | .cp_D => .alu .cp (.reg .d)
  | .cp_E => .alu .cp (.reg .e)
  | .cp_H => .alu .cp (.reg .h)
  | .cp_L => .alu .cp (.reg .l)
  | .cp_atHL => .alu .cp .atHL
  | .cp_A => .alu .cp (.reg .a)
  | .ret_NZ => .returnIf .nz
  | .pop_BC => .popPair .bc
  | .jp_NZ_nn nn => .jumpIf .nz (fun _ => nn)
  | .jp_nn nn => .jump (fun _ => nn)
  | .call_NZ_nn nn => .callIf .nz nn
  | .push_BC => .pushPair .bc
  | .add_A_n n => .alu .add (.imm n)
  | .rst_00 => .call 0x0000#16
  | .ret_Z => .returnIf .z
  | .ret => .ret
  | .jp_Z_nn nn => .jumpIf .z (fun _ => nn)
  | .prefix_CB opcode2 => .extended opcode2
  | .call_Z_nn nn => .callIf .z nn
  | .call_nn nn => .call nn
  | .adc_A_n n => .alu .adc (.imm n)
  | .rst_08 => .call 0x0008#16
  | .ret_NC => .returnIf .nc
  | .pop_DE => .popPair .de
  | .jp_NC_nn nn => .jumpIf .nc (fun _ => nn)
  | .invalid_D3 => .illegal 0xD3#8
  | .call_NC_nn nn => .callIf .nc nn
  | .push_DE => .pushPair .de
  | .sub_n n => .alu .sub (.imm n)
  | .rst_10 => .call 0x0010#16
  | .ret_C => .returnIf .c
  | .reti => .reti
  | .jp_C_nn nn => .jumpIf .c (fun _ => nn)
  | .invalid_DB => .illegal 0xDB#8
  | .call_C_nn nn => .callIf .c nn
  | .invalid_DD => .illegal 0xDD#8
  | .sbc_A_n n => .alu .sbc (.imm n)
  | .rst_18 => .call 0x0018#16
  | .ldh_atN_A n => .storeTo (fun _ => (highPage n)) State.a
  | .pop_HL => .popPair .hl
  | .ld_atC_A => .storeTo (fun s => (highPage s.c)) State.a
  | .invalid_E3 => .illegal 0xE3#8
  | .invalid_E4 => .illegal 0xE4#8
  | .push_HL => .pushPair .hl
  | .and_n n => .alu .and (.imm n)
  | .rst_20 => .call 0x0020#16
  | .add_SP_e e => .addSP e
  | .jp_HL => .jump State.hl
  | .ld_atNN_A nn => .storeTo (fun _ => nn) State.a
  | .invalid_EB => .illegal 0xEB#8
  | .invalid_EC => .illegal 0xEC#8
  | .invalid_ED => .illegal 0xED#8
  | .xor_n n => .alu .xor (.imm n)
  | .rst_28 => .call 0x0028#16
  | .ldh_A_atN n => .loadFrom .a (fun _ => (highPage n))
  | .pop_AF => .popPair .af
  | .ld_A_atC => .loadFrom .a (fun s => (highPage s.c))
  | .di => .di
  | .invalid_F4 => .illegal 0xF4#8
  | .push_AF => .pushPair .af
  | .or_n n => .alu .or (.imm n)
  | .rst_30 => .call 0x0030#16
  | .ld_HL_SPe e => .loadHLFromSPPlus e
  | .ld_SP_HL => .loadSPFromHL
  | .ld_A_atNN nn => .loadFrom .a (fun _ => nn)
  | .ei => .ei
  | .invalid_FC => .illegal 0xFC#8
  | .invalid_FD => .illegal 0xFD#8
  | .cp_n n => .alu .cp (.imm n)
  | .rst_38 => .call 0x0038#16
  | .rlc_B => .rotate .rlc (.reg .b)
  | .rlc_C => .rotate .rlc (.reg .c)
  | .rlc_D => .rotate .rlc (.reg .d)
  | .rlc_E => .rotate .rlc (.reg .e)
  | .rlc_H => .rotate .rlc (.reg .h)
  | .rlc_L => .rotate .rlc (.reg .l)
  | .rlc_atHL => .rotate .rlc .atHL
  | .rlc_A => .rotate .rlc (.reg .a)
  | .rrc_B => .rotate .rrc (.reg .b)
  | .rrc_C => .rotate .rrc (.reg .c)
  | .rrc_D => .rotate .rrc (.reg .d)
  | .rrc_E => .rotate .rrc (.reg .e)
  | .rrc_H => .rotate .rrc (.reg .h)
  | .rrc_L => .rotate .rrc (.reg .l)
  | .rrc_atHL => .rotate .rrc .atHL
  | .rrc_A => .rotate .rrc (.reg .a)
  | .rl_B => .rotate .rl (.reg .b)
  | .rl_C => .rotate .rl (.reg .c)
  | .rl_D => .rotate .rl (.reg .d)
  | .rl_E => .rotate .rl (.reg .e)
  | .rl_H => .rotate .rl (.reg .h)
  | .rl_L => .rotate .rl (.reg .l)
  | .rl_atHL => .rotate .rl .atHL
  | .rl_A => .rotate .rl (.reg .a)
  | .rr_B => .rotate .rr (.reg .b)
  | .rr_C => .rotate .rr (.reg .c)
  | .rr_D => .rotate .rr (.reg .d)
  | .rr_E => .rotate .rr (.reg .e)
  | .rr_H => .rotate .rr (.reg .h)
  | .rr_L => .rotate .rr (.reg .l)
  | .rr_atHL => .rotate .rr .atHL
  | .rr_A => .rotate .rr (.reg .a)
  | .sla_B => .rotate .sla (.reg .b)
  | .sla_C => .rotate .sla (.reg .c)
  | .sla_D => .rotate .sla (.reg .d)
  | .sla_E => .rotate .sla (.reg .e)
  | .sla_H => .rotate .sla (.reg .h)
  | .sla_L => .rotate .sla (.reg .l)
  | .sla_atHL => .rotate .sla .atHL
  | .sla_A => .rotate .sla (.reg .a)
  | .sra_B => .rotate .sra (.reg .b)
  | .sra_C => .rotate .sra (.reg .c)
  | .sra_D => .rotate .sra (.reg .d)
  | .sra_E => .rotate .sra (.reg .e)
  | .sra_H => .rotate .sra (.reg .h)
  | .sra_L => .rotate .sra (.reg .l)
  | .sra_atHL => .rotate .sra .atHL
  | .sra_A => .rotate .sra (.reg .a)
  | .swap_B => .rotate .swap (.reg .b)
  | .swap_C => .rotate .swap (.reg .c)
  | .swap_D => .rotate .swap (.reg .d)
  | .swap_E => .rotate .swap (.reg .e)
  | .swap_H => .rotate .swap (.reg .h)
  | .swap_L => .rotate .swap (.reg .l)
  | .swap_atHL => .rotate .swap .atHL
  | .swap_A => .rotate .swap (.reg .a)
  | .srl_B => .rotate .srl (.reg .b)
  | .srl_C => .rotate .srl (.reg .c)
  | .srl_D => .rotate .srl (.reg .d)
  | .srl_E => .rotate .srl (.reg .e)
  | .srl_H => .rotate .srl (.reg .h)
  | .srl_L => .rotate .srl (.reg .l)
  | .srl_atHL => .rotate .srl .atHL
  | .srl_A => .rotate .srl (.reg .a)
  | .bit_0_B => .testBit 0 (.reg .b)
  | .bit_0_C => .testBit 0 (.reg .c)
  | .bit_0_D => .testBit 0 (.reg .d)
  | .bit_0_E => .testBit 0 (.reg .e)
  | .bit_0_H => .testBit 0 (.reg .h)
  | .bit_0_L => .testBit 0 (.reg .l)
  | .bit_0_atHL => .testBit 0 .atHL
  | .bit_0_A => .testBit 0 (.reg .a)
  | .bit_1_B => .testBit 1 (.reg .b)
  | .bit_1_C => .testBit 1 (.reg .c)
  | .bit_1_D => .testBit 1 (.reg .d)
  | .bit_1_E => .testBit 1 (.reg .e)
  | .bit_1_H => .testBit 1 (.reg .h)
  | .bit_1_L => .testBit 1 (.reg .l)
  | .bit_1_atHL => .testBit 1 .atHL
  | .bit_1_A => .testBit 1 (.reg .a)
  | .bit_2_B => .testBit 2 (.reg .b)
  | .bit_2_C => .testBit 2 (.reg .c)
  | .bit_2_D => .testBit 2 (.reg .d)
  | .bit_2_E => .testBit 2 (.reg .e)
  | .bit_2_H => .testBit 2 (.reg .h)
  | .bit_2_L => .testBit 2 (.reg .l)
  | .bit_2_atHL => .testBit 2 .atHL
  | .bit_2_A => .testBit 2 (.reg .a)
  | .bit_3_B => .testBit 3 (.reg .b)
  | .bit_3_C => .testBit 3 (.reg .c)
  | .bit_3_D => .testBit 3 (.reg .d)
  | .bit_3_E => .testBit 3 (.reg .e)
  | .bit_3_H => .testBit 3 (.reg .h)
  | .bit_3_L => .testBit 3 (.reg .l)
  | .bit_3_atHL => .testBit 3 .atHL
  | .bit_3_A => .testBit 3 (.reg .a)
  | .bit_4_B => .testBit 4 (.reg .b)
  | .bit_4_C => .testBit 4 (.reg .c)
  | .bit_4_D => .testBit 4 (.reg .d)
  | .bit_4_E => .testBit 4 (.reg .e)
  | .bit_4_H => .testBit 4 (.reg .h)
  | .bit_4_L => .testBit 4 (.reg .l)
  | .bit_4_atHL => .testBit 4 .atHL
  | .bit_4_A => .testBit 4 (.reg .a)
  | .bit_5_B => .testBit 5 (.reg .b)
  | .bit_5_C => .testBit 5 (.reg .c)
  | .bit_5_D => .testBit 5 (.reg .d)
  | .bit_5_E => .testBit 5 (.reg .e)
  | .bit_5_H => .testBit 5 (.reg .h)
  | .bit_5_L => .testBit 5 (.reg .l)
  | .bit_5_atHL => .testBit 5 .atHL
  | .bit_5_A => .testBit 5 (.reg .a)
  | .bit_6_B => .testBit 6 (.reg .b)
  | .bit_6_C => .testBit 6 (.reg .c)
  | .bit_6_D => .testBit 6 (.reg .d)
  | .bit_6_E => .testBit 6 (.reg .e)
  | .bit_6_H => .testBit 6 (.reg .h)
  | .bit_6_L => .testBit 6 (.reg .l)
  | .bit_6_atHL => .testBit 6 .atHL
  | .bit_6_A => .testBit 6 (.reg .a)
  | .bit_7_B => .testBit 7 (.reg .b)
  | .bit_7_C => .testBit 7 (.reg .c)
  | .bit_7_D => .testBit 7 (.reg .d)
  | .bit_7_E => .testBit 7 (.reg .e)
  | .bit_7_H => .testBit 7 (.reg .h)
  | .bit_7_L => .testBit 7 (.reg .l)
  | .bit_7_atHL => .testBit 7 .atHL
  | .bit_7_A => .testBit 7 (.reg .a)
  | .res_0_B => .resetBit 0 (.reg .b)
  | .res_0_C => .resetBit 0 (.reg .c)
  | .res_0_D => .resetBit 0 (.reg .d)
  | .res_0_E => .resetBit 0 (.reg .e)
  | .res_0_H => .resetBit 0 (.reg .h)
  | .res_0_L => .resetBit 0 (.reg .l)
  | .res_0_atHL => .resetBit 0 .atHL
  | .res_0_A => .resetBit 0 (.reg .a)
  | .res_1_B => .resetBit 1 (.reg .b)
  | .res_1_C => .resetBit 1 (.reg .c)
  | .res_1_D => .resetBit 1 (.reg .d)
  | .res_1_E => .resetBit 1 (.reg .e)
  | .res_1_H => .resetBit 1 (.reg .h)
  | .res_1_L => .resetBit 1 (.reg .l)
  | .res_1_atHL => .resetBit 1 .atHL
  | .res_1_A => .resetBit 1 (.reg .a)
  | .res_2_B => .resetBit 2 (.reg .b)
  | .res_2_C => .resetBit 2 (.reg .c)
  | .res_2_D => .resetBit 2 (.reg .d)
  | .res_2_E => .resetBit 2 (.reg .e)
  | .res_2_H => .resetBit 2 (.reg .h)
  | .res_2_L => .resetBit 2 (.reg .l)
  | .res_2_atHL => .resetBit 2 .atHL
  | .res_2_A => .resetBit 2 (.reg .a)
  | .res_3_B => .resetBit 3 (.reg .b)
  | .res_3_C => .resetBit 3 (.reg .c)
  | .res_3_D => .resetBit 3 (.reg .d)
  | .res_3_E => .resetBit 3 (.reg .e)
  | .res_3_H => .resetBit 3 (.reg .h)
  | .res_3_L => .resetBit 3 (.reg .l)
  | .res_3_atHL => .resetBit 3 .atHL
  | .res_3_A => .resetBit 3 (.reg .a)
  | .res_4_B => .resetBit 4 (.reg .b)
  | .res_4_C => .resetBit 4 (.reg .c)
  | .res_4_D => .resetBit 4 (.reg .d)
  | .res_4_E => .resetBit 4 (.reg .e)
  | .res_4_H => .resetBit 4 (.reg .h)
  | .res_4_L => .resetBit 4 (.reg .l)
  | .res_4_atHL => .resetBit 4 .atHL
  | .res_4_A => .resetBit 4 (.reg .a)
  | .res_5_B => .resetBit 5 (.reg .b)
  | .res_5_C => .resetBit 5 (.reg .c)
  | .res_5_D => .resetBit 5 (.reg .d)
  | .res_5_E => .resetBit 5 (.reg .e)
  | .res_5_H => .resetBit 5 (.reg .h)
  | .res_5_L => .resetBit 5 (.reg .l)
  | .res_5_atHL => .resetBit 5 .atHL
  | .res_5_A => .resetBit 5 (.reg .a)
  | .res_6_B => .resetBit 6 (.reg .b)
  | .res_6_C => .resetBit 6 (.reg .c)
  | .res_6_D => .resetBit 6 (.reg .d)
  | .res_6_E => .resetBit 6 (.reg .e)
  | .res_6_H => .resetBit 6 (.reg .h)
  | .res_6_L => .resetBit 6 (.reg .l)
  | .res_6_atHL => .resetBit 6 .atHL
  | .res_6_A => .resetBit 6 (.reg .a)
  | .res_7_B => .resetBit 7 (.reg .b)
  | .res_7_C => .resetBit 7 (.reg .c)
  | .res_7_D => .resetBit 7 (.reg .d)
  | .res_7_E => .resetBit 7 (.reg .e)
  | .res_7_H => .resetBit 7 (.reg .h)
  | .res_7_L => .resetBit 7 (.reg .l)
  | .res_7_atHL => .resetBit 7 .atHL
  | .res_7_A => .resetBit 7 (.reg .a)
  | .set_0_B => .setBit 0 (.reg .b)
  | .set_0_C => .setBit 0 (.reg .c)
  | .set_0_D => .setBit 0 (.reg .d)
  | .set_0_E => .setBit 0 (.reg .e)
  | .set_0_H => .setBit 0 (.reg .h)
  | .set_0_L => .setBit 0 (.reg .l)
  | .set_0_atHL => .setBit 0 .atHL
  | .set_0_A => .setBit 0 (.reg .a)
  | .set_1_B => .setBit 1 (.reg .b)
  | .set_1_C => .setBit 1 (.reg .c)
  | .set_1_D => .setBit 1 (.reg .d)
  | .set_1_E => .setBit 1 (.reg .e)
  | .set_1_H => .setBit 1 (.reg .h)
  | .set_1_L => .setBit 1 (.reg .l)
  | .set_1_atHL => .setBit 1 .atHL
  | .set_1_A => .setBit 1 (.reg .a)
  | .set_2_B => .setBit 2 (.reg .b)
  | .set_2_C => .setBit 2 (.reg .c)
  | .set_2_D => .setBit 2 (.reg .d)
  | .set_2_E => .setBit 2 (.reg .e)
  | .set_2_H => .setBit 2 (.reg .h)
  | .set_2_L => .setBit 2 (.reg .l)
  | .set_2_atHL => .setBit 2 .atHL
  | .set_2_A => .setBit 2 (.reg .a)
  | .set_3_B => .setBit 3 (.reg .b)
  | .set_3_C => .setBit 3 (.reg .c)
  | .set_3_D => .setBit 3 (.reg .d)
  | .set_3_E => .setBit 3 (.reg .e)
  | .set_3_H => .setBit 3 (.reg .h)
  | .set_3_L => .setBit 3 (.reg .l)
  | .set_3_atHL => .setBit 3 .atHL
  | .set_3_A => .setBit 3 (.reg .a)
  | .set_4_B => .setBit 4 (.reg .b)
  | .set_4_C => .setBit 4 (.reg .c)
  | .set_4_D => .setBit 4 (.reg .d)
  | .set_4_E => .setBit 4 (.reg .e)
  | .set_4_H => .setBit 4 (.reg .h)
  | .set_4_L => .setBit 4 (.reg .l)
  | .set_4_atHL => .setBit 4 .atHL
  | .set_4_A => .setBit 4 (.reg .a)
  | .set_5_B => .setBit 5 (.reg .b)
  | .set_5_C => .setBit 5 (.reg .c)
  | .set_5_D => .setBit 5 (.reg .d)
  | .set_5_E => .setBit 5 (.reg .e)
  | .set_5_H => .setBit 5 (.reg .h)
  | .set_5_L => .setBit 5 (.reg .l)
  | .set_5_atHL => .setBit 5 .atHL
  | .set_5_A => .setBit 5 (.reg .a)
  | .set_6_B => .setBit 6 (.reg .b)
  | .set_6_C => .setBit 6 (.reg .c)
  | .set_6_D => .setBit 6 (.reg .d)
  | .set_6_E => .setBit 6 (.reg .e)
  | .set_6_H => .setBit 6 (.reg .h)
  | .set_6_L => .setBit 6 (.reg .l)
  | .set_6_atHL => .setBit 6 .atHL
  | .set_6_A => .setBit 6 (.reg .a)
  | .set_7_B => .setBit 7 (.reg .b)
  | .set_7_C => .setBit 7 (.reg .c)
  | .set_7_D => .setBit 7 (.reg .d)
  | .set_7_E => .setBit 7 (.reg .e)
  | .set_7_H => .setBit 7 (.reg .h)
  | .set_7_L => .setBit 7 (.reg .l)
  | .set_7_atHL => .setBit 7 .atHL
  | .set_7_A => .setBit 7 (.reg .a)

/-- The condition of a conditional opcode, its bits 4 and 3 (R98). -/
def condOf (op : Byte) : Cond :=
  match (op.extractLsb' 3 2).toNat with
  | 0 => .nz
  | 1 => .z
  | 2 => .nc
  | _ => .c

/-- What an instruction reports (R93, R400): its cost in the parameter CYCLES, the taken one where its condition holds;
an Invalid entry its fault. -/
def reportOf (i : Instr) (s : State) : Report :=
  match encode i with
  | [] => .nothing
  | op :: rest =>
    if op = 0xCB#8 then .cycles (s.extendedCost (rest.headD 0x00#8))
    else if (primaryDescriptor s.params op).cls = .invalid then .fault { opcode := op, addr := s.pc - 1 }
    else if isConditional op && s.cond (condOf op) then .cycles (s.takenCost op)
    else .cycles (s.cost op)

/-- A conditional jump as its effect and its report. -/
theorem jumpIf_eq (cc : Cond) (target : Word) (op : Byte) (s : State) :
    jumpIf cc target op s = { (if s.cond cc then s.jump target else s) with
      report := if s.cond cc then .cycles (s.takenCost op) else .cycles (s.cost op) } := by
  unfold jumpIf; split <;> rfl

/-- A conditional call as its effect and its report. -/
theorem callIf_eq (cc : Cond) (target : Word) (op : Byte) (s : State) :
    callIf cc target op s = { (if s.cond cc then callTo target s else s) with
      report := if s.cond cc then .cycles (s.takenCost op) else .cycles (s.cost op) } := by
  unfold callIf; split <;> rfl

/-- A conditional return as its effect and its report. -/
theorem returnIf_eq (cc : Cond) (op : Byte) (s : State) :
    returnIf cc op s = { (if s.cond cc then returnTo s else s) with
      report := if s.cond cc then .cycles (s.takenCost op) else .cycles (s.cost op) } := by
  unfold returnIf; split <;> rfl

/-- Executing an instruction is running its operation and reporting its cost. -/
theorem exec_eq (i : Instr) (s : State) :
    exec i s = .next { (effectOf i).run s with report := reportOf i s } := by
  cases i <;> first
    | rfl
    | (rename_i n; cases n <;> rfl)
    | exact congrArg Host.Outcome.next (jumpIf_eq _ _ _ s)
    | exact congrArg Host.Outcome.next (callIf_eq _ _ _ s)
    | exact congrArg Host.Outcome.next (returnIf_eq _ _ s)

end Sys2Proof.Machine
end

