-- ==== Sys2Proof/Laws/PerInstr.lean ====
section
/-! SUPPORT. One lemma per constructor of `Instr`: the words the spec's encoding gives an instruction decode to it. -/

namespace Sys2Proof

/-- The bytes of a well-formed instruction decode to that instruction, and nothing is left over. -/
def Laws.RoundTrip.Statement (i : Instr) : Prop :=
  ∀ p : Params, i.wellFormed p = true → decode p (encode i) = .ok i []

theorem Laws.RoundTrip.nop : Laws.RoundTrip.Statement .nop := fun _ _ => rfl
theorem Laws.RoundTrip.ld_BC_nn (nn : Word) : Laws.RoundTrip.Statement (.ld_BC_nn nn) :=
  fun _ _ => congrArg (fun v => Decoded.ok (.ld_BC_nn v) []) (joinBytes_halves nn)
theorem Laws.RoundTrip.ld_atBC_A : Laws.RoundTrip.Statement .ld_atBC_A := fun _ _ => rfl
theorem Laws.RoundTrip.inc_BC : Laws.RoundTrip.Statement .inc_BC := fun _ _ => rfl
theorem Laws.RoundTrip.inc_B : Laws.RoundTrip.Statement .inc_B := fun _ _ => rfl
theorem Laws.RoundTrip.dec_B : Laws.RoundTrip.Statement .dec_B := fun _ _ => rfl
theorem Laws.RoundTrip.ld_B_n (n : Byte) : Laws.RoundTrip.Statement (.ld_B_n n) := fun _ _ => rfl
theorem Laws.RoundTrip.rlca : Laws.RoundTrip.Statement .rlca := fun _ _ => rfl
theorem Laws.RoundTrip.ld_atNN_SP (nn : Word) : Laws.RoundTrip.Statement (.ld_atNN_SP nn) :=
  fun _ _ => congrArg (fun v => Decoded.ok (.ld_atNN_SP v) []) (joinBytes_halves nn)
theorem Laws.RoundTrip.add_HL_BC : Laws.RoundTrip.Statement .add_HL_BC := fun _ _ => rfl
theorem Laws.RoundTrip.ld_A_atBC : Laws.RoundTrip.Statement .ld_A_atBC := fun _ _ => rfl
theorem Laws.RoundTrip.dec_BC : Laws.RoundTrip.Statement .dec_BC := fun _ _ => rfl
theorem Laws.RoundTrip.inc_C : Laws.RoundTrip.Statement .inc_C := fun _ _ => rfl
theorem Laws.RoundTrip.dec_C : Laws.RoundTrip.Statement .dec_C := fun _ _ => rfl
theorem Laws.RoundTrip.ld_C_n (n : Byte) : Laws.RoundTrip.Statement (.ld_C_n n) := fun _ _ => rfl
theorem Laws.RoundTrip.rrca : Laws.RoundTrip.Statement .rrca := fun _ _ => rfl
theorem Laws.RoundTrip.stop (n : Option Byte) : Laws.RoundTrip.Statement (.stop n) := by
  rintro ⟨len, d, c, k, bus⟩ h
  cases n <;> cases len <;> first | rfl | cases h
theorem Laws.RoundTrip.ld_DE_nn (nn : Word) : Laws.RoundTrip.Statement (.ld_DE_nn nn) :=
  fun _ _ => congrArg (fun v => Decoded.ok (.ld_DE_nn v) []) (joinBytes_halves nn)
theorem Laws.RoundTrip.ld_atDE_A : Laws.RoundTrip.Statement .ld_atDE_A := fun _ _ => rfl
theorem Laws.RoundTrip.inc_DE : Laws.RoundTrip.Statement .inc_DE := fun _ _ => rfl
theorem Laws.RoundTrip.inc_D : Laws.RoundTrip.Statement .inc_D := fun _ _ => rfl
theorem Laws.RoundTrip.dec_D : Laws.RoundTrip.Statement .dec_D := fun _ _ => rfl
theorem Laws.RoundTrip.ld_D_n (n : Byte) : Laws.RoundTrip.Statement (.ld_D_n n) := fun _ _ => rfl
theorem Laws.RoundTrip.rla : Laws.RoundTrip.Statement .rla := fun _ _ => rfl
theorem Laws.RoundTrip.jr_e (e : Byte) : Laws.RoundTrip.Statement (.jr_e e) := fun _ _ => rfl
theorem Laws.RoundTrip.add_HL_DE : Laws.RoundTrip.Statement .add_HL_DE := fun _ _ => rfl
theorem Laws.RoundTrip.ld_A_atDE : Laws.RoundTrip.Statement .ld_A_atDE := fun _ _ => rfl
theorem Laws.RoundTrip.dec_DE : Laws.RoundTrip.Statement .dec_DE := fun _ _ => rfl
theorem Laws.RoundTrip.inc_E : Laws.RoundTrip.Statement .inc_E := fun _ _ => rfl
theorem Laws.RoundTrip.dec_E : Laws.RoundTrip.Statement .dec_E := fun _ _ => rfl
theorem Laws.RoundTrip.ld_E_n (n : Byte) : Laws.RoundTrip.Statement (.ld_E_n n) := fun _ _ => rfl
theorem Laws.RoundTrip.rra : Laws.RoundTrip.Statement .rra := fun _ _ => rfl
theorem Laws.RoundTrip.jr_NZ_e (e : Byte) : Laws.RoundTrip.Statement (.jr_NZ_e e) := fun _ _ => rfl
theorem Laws.RoundTrip.ld_HL_nn (nn : Word) : Laws.RoundTrip.Statement (.ld_HL_nn nn) :=
  fun _ _ => congrArg (fun v => Decoded.ok (.ld_HL_nn v) []) (joinBytes_halves nn)
theorem Laws.RoundTrip.ld_atHLinc_A : Laws.RoundTrip.Statement .ld_atHLinc_A := fun _ _ => rfl
theorem Laws.RoundTrip.inc_HL : Laws.RoundTrip.Statement .inc_HL := fun _ _ => rfl
theorem Laws.RoundTrip.inc_H : Laws.RoundTrip.Statement .inc_H := fun _ _ => rfl
theorem Laws.RoundTrip.dec_H : Laws.RoundTrip.Statement .dec_H := fun _ _ => rfl
theorem Laws.RoundTrip.ld_H_n (n : Byte) : Laws.RoundTrip.Statement (.ld_H_n n) := fun _ _ => rfl
theorem Laws.RoundTrip.daa : Laws.RoundTrip.Statement .daa := fun _ _ => rfl
theorem Laws.RoundTrip.jr_Z_e (e : Byte) : Laws.RoundTrip.Statement (.jr_Z_e e) := fun _ _ => rfl
theorem Laws.RoundTrip.add_HL_HL : Laws.RoundTrip.Statement .add_HL_HL := fun _ _ => rfl
theorem Laws.RoundTrip.ld_A_atHLinc : Laws.RoundTrip.Statement .ld_A_atHLinc := fun _ _ => rfl
theorem Laws.RoundTrip.dec_HL : Laws.RoundTrip.Statement .dec_HL := fun _ _ => rfl
theorem Laws.RoundTrip.inc_L : Laws.RoundTrip.Statement .inc_L := fun _ _ => rfl
theorem Laws.RoundTrip.dec_L : Laws.RoundTrip.Statement .dec_L := fun _ _ => rfl
theorem Laws.RoundTrip.ld_L_n (n : Byte) : Laws.RoundTrip.Statement (.ld_L_n n) := fun _ _ => rfl
theorem Laws.RoundTrip.cpl : Laws.RoundTrip.Statement .cpl := fun _ _ => rfl
theorem Laws.RoundTrip.jr_NC_e (e : Byte) : Laws.RoundTrip.Statement (.jr_NC_e e) := fun _ _ => rfl
theorem Laws.RoundTrip.ld_SP_nn (nn : Word) : Laws.RoundTrip.Statement (.ld_SP_nn nn) :=
  fun _ _ => congrArg (fun v => Decoded.ok (.ld_SP_nn v) []) (joinBytes_halves nn)
theorem Laws.RoundTrip.ld_atHLdec_A : Laws.RoundTrip.Statement .ld_atHLdec_A := fun _ _ => rfl
theorem Laws.RoundTrip.inc_SP : Laws.RoundTrip.Statement .inc_SP := fun _ _ => rfl
theorem Laws.RoundTrip.inc_atHL : Laws.RoundTrip.Statement .inc_atHL := fun _ _ => rfl
theorem Laws.RoundTrip.dec_atHL : Laws.RoundTrip.Statement .dec_atHL := fun _ _ => rfl
theorem Laws.RoundTrip.ld_atHL_n (n : Byte) : Laws.RoundTrip.Statement (.ld_atHL_n n) := fun _ _ => rfl
theorem Laws.RoundTrip.scf : Laws.RoundTrip.Statement .scf := fun _ _ => rfl
theorem Laws.RoundTrip.jr_C_e (e : Byte) : Laws.RoundTrip.Statement (.jr_C_e e) := fun _ _ => rfl
theorem Laws.RoundTrip.add_HL_SP : Laws.RoundTrip.Statement .add_HL_SP := fun _ _ => rfl
theorem Laws.RoundTrip.ld_A_atHLdec : Laws.RoundTrip.Statement .ld_A_atHLdec := fun _ _ => rfl
theorem Laws.RoundTrip.dec_SP : Laws.RoundTrip.Statement .dec_SP := fun _ _ => rfl
theorem Laws.RoundTrip.inc_A : Laws.RoundTrip.Statement .inc_A := fun _ _ => rfl
theorem Laws.RoundTrip.dec_A : Laws.RoundTrip.Statement .dec_A := fun _ _ => rfl
theorem Laws.RoundTrip.ld_A_n (n : Byte) : Laws.RoundTrip.Statement (.ld_A_n n) := fun _ _ => rfl
theorem Laws.RoundTrip.ccf : Laws.RoundTrip.Statement .ccf := fun _ _ => rfl
theorem Laws.RoundTrip.ld_B_B : Laws.RoundTrip.Statement .ld_B_B := fun _ _ => rfl
theorem Laws.RoundTrip.ld_B_C : Laws.RoundTrip.Statement .ld_B_C := fun _ _ => rfl
theorem Laws.RoundTrip.ld_B_D : Laws.RoundTrip.Statement .ld_B_D := fun _ _ => rfl
theorem Laws.RoundTrip.ld_B_E : Laws.RoundTrip.Statement .ld_B_E := fun _ _ => rfl
theorem Laws.RoundTrip.ld_B_H : Laws.RoundTrip.Statement .ld_B_H := fun _ _ => rfl
theorem Laws.RoundTrip.ld_B_L : Laws.RoundTrip.Statement .ld_B_L := fun _ _ => rfl
theorem Laws.RoundTrip.ld_B_atHL : Laws.RoundTrip.Statement .ld_B_atHL := fun _ _ => rfl
theorem Laws.RoundTrip.ld_B_A : Laws.RoundTrip.Statement .ld_B_A := fun _ _ => rfl
theorem Laws.RoundTrip.ld_C_B : Laws.RoundTrip.Statement .ld_C_B := fun _ _ => rfl
theorem Laws.RoundTrip.ld_C_C : Laws.RoundTrip.Statement .ld_C_C := fun _ _ => rfl
theorem Laws.RoundTrip.ld_C_D : Laws.RoundTrip.Statement .ld_C_D := fun _ _ => rfl
theorem Laws.RoundTrip.ld_C_E : Laws.RoundTrip.Statement .ld_C_E := fun _ _ => rfl
theorem Laws.RoundTrip.ld_C_H : Laws.RoundTrip.Statement .ld_C_H := fun _ _ => rfl
theorem Laws.RoundTrip.ld_C_L : Laws.RoundTrip.Statement .ld_C_L := fun _ _ => rfl
theorem Laws.RoundTrip.ld_C_atHL : Laws.RoundTrip.Statement .ld_C_atHL := fun _ _ => rfl
theorem Laws.RoundTrip.ld_C_A : Laws.RoundTrip.Statement .ld_C_A := fun _ _ => rfl
theorem Laws.RoundTrip.ld_D_B : Laws.RoundTrip.Statement .ld_D_B := fun _ _ => rfl
theorem Laws.RoundTrip.ld_D_C : Laws.RoundTrip.Statement .ld_D_C := fun _ _ => rfl
theorem Laws.RoundTrip.ld_D_D : Laws.RoundTrip.Statement .ld_D_D := fun _ _ => rfl
theorem Laws.RoundTrip.ld_D_E : Laws.RoundTrip.Statement .ld_D_E := fun _ _ => rfl
theorem Laws.RoundTrip.ld_D_H : Laws.RoundTrip.Statement .ld_D_H := fun _ _ => rfl
theorem Laws.RoundTrip.ld_D_L : Laws.RoundTrip.Statement .ld_D_L := fun _ _ => rfl
theorem Laws.RoundTrip.ld_D_atHL : Laws.RoundTrip.Statement .ld_D_atHL := fun _ _ => rfl
theorem Laws.RoundTrip.ld_D_A : Laws.RoundTrip.Statement .ld_D_A := fun _ _ => rfl
theorem Laws.RoundTrip.ld_E_B : Laws.RoundTrip.Statement .ld_E_B := fun _ _ => rfl
theorem Laws.RoundTrip.ld_E_C : Laws.RoundTrip.Statement .ld_E_C := fun _ _ => rfl
theorem Laws.RoundTrip.ld_E_D : Laws.RoundTrip.Statement .ld_E_D := fun _ _ => rfl
theorem Laws.RoundTrip.ld_E_E : Laws.RoundTrip.Statement .ld_E_E := fun _ _ => rfl
theorem Laws.RoundTrip.ld_E_H : Laws.RoundTrip.Statement .ld_E_H := fun _ _ => rfl
theorem Laws.RoundTrip.ld_E_L : Laws.RoundTrip.Statement .ld_E_L := fun _ _ => rfl
theorem Laws.RoundTrip.ld_E_atHL : Laws.RoundTrip.Statement .ld_E_atHL := fun _ _ => rfl
theorem Laws.RoundTrip.ld_E_A : Laws.RoundTrip.Statement .ld_E_A := fun _ _ => rfl
theorem Laws.RoundTrip.ld_H_B : Laws.RoundTrip.Statement .ld_H_B := fun _ _ => rfl
theorem Laws.RoundTrip.ld_H_C : Laws.RoundTrip.Statement .ld_H_C := fun _ _ => rfl
theorem Laws.RoundTrip.ld_H_D : Laws.RoundTrip.Statement .ld_H_D := fun _ _ => rfl
theorem Laws.RoundTrip.ld_H_E : Laws.RoundTrip.Statement .ld_H_E := fun _ _ => rfl
theorem Laws.RoundTrip.ld_H_H : Laws.RoundTrip.Statement .ld_H_H := fun _ _ => rfl
theorem Laws.RoundTrip.ld_H_L : Laws.RoundTrip.Statement .ld_H_L := fun _ _ => rfl
theorem Laws.RoundTrip.ld_H_atHL : Laws.RoundTrip.Statement .ld_H_atHL := fun _ _ => rfl
theorem Laws.RoundTrip.ld_H_A : Laws.RoundTrip.Statement .ld_H_A := fun _ _ => rfl
theorem Laws.RoundTrip.ld_L_B : Laws.RoundTrip.Statement .ld_L_B := fun _ _ => rfl
theorem Laws.RoundTrip.ld_L_C : Laws.RoundTrip.Statement .ld_L_C := fun _ _ => rfl
theorem Laws.RoundTrip.ld_L_D : Laws.RoundTrip.Statement .ld_L_D := fun _ _ => rfl
theorem Laws.RoundTrip.ld_L_E : Laws.RoundTrip.Statement .ld_L_E := fun _ _ => rfl
theorem Laws.RoundTrip.ld_L_H : Laws.RoundTrip.Statement .ld_L_H := fun _ _ => rfl
theorem Laws.RoundTrip.ld_L_L : Laws.RoundTrip.Statement .ld_L_L := fun _ _ => rfl
theorem Laws.RoundTrip.ld_L_atHL : Laws.RoundTrip.Statement .ld_L_atHL := fun _ _ => rfl
theorem Laws.RoundTrip.ld_L_A : Laws.RoundTrip.Statement .ld_L_A := fun _ _ => rfl
theorem Laws.RoundTrip.ld_atHL_B : Laws.RoundTrip.Statement .ld_atHL_B := fun _ _ => rfl
theorem Laws.RoundTrip.ld_atHL_C : Laws.RoundTrip.Statement .ld_atHL_C := fun _ _ => rfl
theorem Laws.RoundTrip.ld_atHL_D : Laws.RoundTrip.Statement .ld_atHL_D := fun _ _ => rfl
theorem Laws.RoundTrip.ld_atHL_E : Laws.RoundTrip.Statement .ld_atHL_E := fun _ _ => rfl
theorem Laws.RoundTrip.ld_atHL_H : Laws.RoundTrip.Statement .ld_atHL_H := fun _ _ => rfl
theorem Laws.RoundTrip.ld_atHL_L : Laws.RoundTrip.Statement .ld_atHL_L := fun _ _ => rfl
theorem Laws.RoundTrip.halt : Laws.RoundTrip.Statement .halt := fun _ _ => rfl
theorem Laws.RoundTrip.ld_atHL_A : Laws.RoundTrip.Statement .ld_atHL_A := fun _ _ => rfl
theorem Laws.RoundTrip.ld_A_B : Laws.RoundTrip.Statement .ld_A_B := fun _ _ => rfl
theorem Laws.RoundTrip.ld_A_C : Laws.RoundTrip.Statement .ld_A_C := fun _ _ => rfl
theorem Laws.RoundTrip.ld_A_D : Laws.RoundTrip.Statement .ld_A_D := fun _ _ => rfl
theorem Laws.RoundTrip.ld_A_E : Laws.RoundTrip.Statement .ld_A_E := fun _ _ => rfl
theorem Laws.RoundTrip.ld_A_H : Laws.RoundTrip.Statement .ld_A_H := fun _ _ => rfl
theorem Laws.RoundTrip.ld_A_L : Laws.RoundTrip.Statement .ld_A_L := fun _ _ => rfl
theorem Laws.RoundTrip.ld_A_atHL : Laws.RoundTrip.Statement .ld_A_atHL := fun _ _ => rfl
theorem Laws.RoundTrip.ld_A_A : Laws.RoundTrip.Statement .ld_A_A := fun _ _ => rfl
theorem Laws.RoundTrip.add_A_B : Laws.RoundTrip.Statement .add_A_B := fun _ _ => rfl
theorem Laws.RoundTrip.add_A_C : Laws.RoundTrip.Statement .add_A_C := fun _ _ => rfl
theorem Laws.RoundTrip.add_A_D : Laws.RoundTrip.Statement .add_A_D := fun _ _ => rfl
theorem Laws.RoundTrip.add_A_E : Laws.RoundTrip.Statement .add_A_E := fun _ _ => rfl
theorem Laws.RoundTrip.add_A_H : Laws.RoundTrip.Statement .add_A_H := fun _ _ => rfl
theorem Laws.RoundTrip.add_A_L : Laws.RoundTrip.Statement .add_A_L := fun _ _ => rfl
theorem Laws.RoundTrip.add_A_atHL : Laws.RoundTrip.Statement .add_A_atHL := fun _ _ => rfl
theorem Laws.RoundTrip.add_A_A : Laws.RoundTrip.Statement .add_A_A := fun _ _ => rfl
theorem Laws.RoundTrip.adc_A_B : Laws.RoundTrip.Statement .adc_A_B := fun _ _ => rfl
theorem Laws.RoundTrip.adc_A_C : Laws.RoundTrip.Statement .adc_A_C := fun _ _ => rfl
theorem Laws.RoundTrip.adc_A_D : Laws.RoundTrip.Statement .adc_A_D := fun _ _ => rfl
theorem Laws.RoundTrip.adc_A_E : Laws.RoundTrip.Statement .adc_A_E := fun _ _ => rfl
theorem Laws.RoundTrip.adc_A_H : Laws.RoundTrip.Statement .adc_A_H := fun _ _ => rfl
theorem Laws.RoundTrip.adc_A_L : Laws.RoundTrip.Statement .adc_A_L := fun _ _ => rfl
theorem Laws.RoundTrip.adc_A_atHL : Laws.RoundTrip.Statement .adc_A_atHL := fun _ _ => rfl
theorem Laws.RoundTrip.adc_A_A : Laws.RoundTrip.Statement .adc_A_A := fun _ _ => rfl
theorem Laws.RoundTrip.sub_B : Laws.RoundTrip.Statement .sub_B := fun _ _ => rfl
theorem Laws.RoundTrip.sub_C : Laws.RoundTrip.Statement .sub_C := fun _ _ => rfl
theorem Laws.RoundTrip.sub_D : Laws.RoundTrip.Statement .sub_D := fun _ _ => rfl
theorem Laws.RoundTrip.sub_E : Laws.RoundTrip.Statement .sub_E := fun _ _ => rfl
theorem Laws.RoundTrip.sub_H : Laws.RoundTrip.Statement .sub_H := fun _ _ => rfl
theorem Laws.RoundTrip.sub_L : Laws.RoundTrip.Statement .sub_L := fun _ _ => rfl
theorem Laws.RoundTrip.sub_atHL : Laws.RoundTrip.Statement .sub_atHL := fun _ _ => rfl
theorem Laws.RoundTrip.sub_A : Laws.RoundTrip.Statement .sub_A := fun _ _ => rfl
theorem Laws.RoundTrip.sbc_A_B : Laws.RoundTrip.Statement .sbc_A_B := fun _ _ => rfl
theorem Laws.RoundTrip.sbc_A_C : Laws.RoundTrip.Statement .sbc_A_C := fun _ _ => rfl
theorem Laws.RoundTrip.sbc_A_D : Laws.RoundTrip.Statement .sbc_A_D := fun _ _ => rfl
theorem Laws.RoundTrip.sbc_A_E : Laws.RoundTrip.Statement .sbc_A_E := fun _ _ => rfl
theorem Laws.RoundTrip.sbc_A_H : Laws.RoundTrip.Statement .sbc_A_H := fun _ _ => rfl
theorem Laws.RoundTrip.sbc_A_L : Laws.RoundTrip.Statement .sbc_A_L := fun _ _ => rfl
theorem Laws.RoundTrip.sbc_A_atHL : Laws.RoundTrip.Statement .sbc_A_atHL := fun _ _ => rfl
theorem Laws.RoundTrip.sbc_A_A : Laws.RoundTrip.Statement .sbc_A_A := fun _ _ => rfl
theorem Laws.RoundTrip.and_B : Laws.RoundTrip.Statement .and_B := fun _ _ => rfl
theorem Laws.RoundTrip.and_C : Laws.RoundTrip.Statement .and_C := fun _ _ => rfl
theorem Laws.RoundTrip.and_D : Laws.RoundTrip.Statement .and_D := fun _ _ => rfl
theorem Laws.RoundTrip.and_E : Laws.RoundTrip.Statement .and_E := fun _ _ => rfl
theorem Laws.RoundTrip.and_H : Laws.RoundTrip.Statement .and_H := fun _ _ => rfl
theorem Laws.RoundTrip.and_L : Laws.RoundTrip.Statement .and_L := fun _ _ => rfl
theorem Laws.RoundTrip.and_atHL : Laws.RoundTrip.Statement .and_atHL := fun _ _ => rfl
theorem Laws.RoundTrip.and_A : Laws.RoundTrip.Statement .and_A := fun _ _ => rfl
theorem Laws.RoundTrip.xor_B : Laws.RoundTrip.Statement .xor_B := fun _ _ => rfl
theorem Laws.RoundTrip.xor_C : Laws.RoundTrip.Statement .xor_C := fun _ _ => rfl
theorem Laws.RoundTrip.xor_D : Laws.RoundTrip.Statement .xor_D := fun _ _ => rfl
theorem Laws.RoundTrip.xor_E : Laws.RoundTrip.Statement .xor_E := fun _ _ => rfl
theorem Laws.RoundTrip.xor_H : Laws.RoundTrip.Statement .xor_H := fun _ _ => rfl
theorem Laws.RoundTrip.xor_L : Laws.RoundTrip.Statement .xor_L := fun _ _ => rfl
theorem Laws.RoundTrip.xor_atHL : Laws.RoundTrip.Statement .xor_atHL := fun _ _ => rfl
theorem Laws.RoundTrip.xor_A : Laws.RoundTrip.Statement .xor_A := fun _ _ => rfl
theorem Laws.RoundTrip.or_B : Laws.RoundTrip.Statement .or_B := fun _ _ => rfl
theorem Laws.RoundTrip.or_C : Laws.RoundTrip.Statement .or_C := fun _ _ => rfl
theorem Laws.RoundTrip.or_D : Laws.RoundTrip.Statement .or_D := fun _ _ => rfl
theorem Laws.RoundTrip.or_E : Laws.RoundTrip.Statement .or_E := fun _ _ => rfl
theorem Laws.RoundTrip.or_H : Laws.RoundTrip.Statement .or_H := fun _ _ => rfl
theorem Laws.RoundTrip.or_L : Laws.RoundTrip.Statement .or_L := fun _ _ => rfl
theorem Laws.RoundTrip.or_atHL : Laws.RoundTrip.Statement .or_atHL := fun _ _ => rfl
theorem Laws.RoundTrip.or_A : Laws.RoundTrip.Statement .or_A := fun _ _ => rfl
theorem Laws.RoundTrip.cp_B : Laws.RoundTrip.Statement .cp_B := fun _ _ => rfl
theorem Laws.RoundTrip.cp_C : Laws.RoundTrip.Statement .cp_C := fun _ _ => rfl
theorem Laws.RoundTrip.cp_D : Laws.RoundTrip.Statement .cp_D := fun _ _ => rfl
theorem Laws.RoundTrip.cp_E : Laws.RoundTrip.Statement .cp_E := fun _ _ => rfl
theorem Laws.RoundTrip.cp_H : Laws.RoundTrip.Statement .cp_H := fun _ _ => rfl
theorem Laws.RoundTrip.cp_L : Laws.RoundTrip.Statement .cp_L := fun _ _ => rfl
theorem Laws.RoundTrip.cp_atHL : Laws.RoundTrip.Statement .cp_atHL := fun _ _ => rfl
theorem Laws.RoundTrip.cp_A : Laws.RoundTrip.Statement .cp_A := fun _ _ => rfl
theorem Laws.RoundTrip.ret_NZ : Laws.RoundTrip.Statement .ret_NZ := fun _ _ => rfl
theorem Laws.RoundTrip.pop_BC : Laws.RoundTrip.Statement .pop_BC := fun _ _ => rfl
theorem Laws.RoundTrip.jp_NZ_nn (nn : Word) : Laws.RoundTrip.Statement (.jp_NZ_nn nn) :=
  fun _ _ => congrArg (fun v => Decoded.ok (.jp_NZ_nn v) []) (joinBytes_halves nn)
theorem Laws.RoundTrip.jp_nn (nn : Word) : Laws.RoundTrip.Statement (.jp_nn nn) :=
  fun _ _ => congrArg (fun v => Decoded.ok (.jp_nn v) []) (joinBytes_halves nn)
theorem Laws.RoundTrip.call_NZ_nn (nn : Word) : Laws.RoundTrip.Statement (.call_NZ_nn nn) :=
  fun _ _ => congrArg (fun v => Decoded.ok (.call_NZ_nn v) []) (joinBytes_halves nn)
theorem Laws.RoundTrip.push_BC : Laws.RoundTrip.Statement .push_BC := fun _ _ => rfl
theorem Laws.RoundTrip.add_A_n (n : Byte) : Laws.RoundTrip.Statement (.add_A_n n) := fun _ _ => rfl
theorem Laws.RoundTrip.rst_00 : Laws.RoundTrip.Statement .rst_00 := fun _ _ => rfl
theorem Laws.RoundTrip.ret_Z : Laws.RoundTrip.Statement .ret_Z := fun _ _ => rfl
theorem Laws.RoundTrip.ret : Laws.RoundTrip.Statement .ret := fun _ _ => rfl
theorem Laws.RoundTrip.jp_Z_nn (nn : Word) : Laws.RoundTrip.Statement (.jp_Z_nn nn) :=
  fun _ _ => congrArg (fun v => Decoded.ok (.jp_Z_nn v) []) (joinBytes_halves nn)
theorem Laws.RoundTrip.prefix_CB (opcode2 : Byte) : Laws.RoundTrip.Statement (.prefix_CB opcode2) :=
  fun _ h => nomatch h
theorem Laws.RoundTrip.call_Z_nn (nn : Word) : Laws.RoundTrip.Statement (.call_Z_nn nn) :=
  fun _ _ => congrArg (fun v => Decoded.ok (.call_Z_nn v) []) (joinBytes_halves nn)
theorem Laws.RoundTrip.call_nn (nn : Word) : Laws.RoundTrip.Statement (.call_nn nn) :=
  fun _ _ => congrArg (fun v => Decoded.ok (.call_nn v) []) (joinBytes_halves nn)
theorem Laws.RoundTrip.adc_A_n (n : Byte) : Laws.RoundTrip.Statement (.adc_A_n n) := fun _ _ => rfl
theorem Laws.RoundTrip.rst_08 : Laws.RoundTrip.Statement .rst_08 := fun _ _ => rfl
theorem Laws.RoundTrip.ret_NC : Laws.RoundTrip.Statement .ret_NC := fun _ _ => rfl
theorem Laws.RoundTrip.pop_DE : Laws.RoundTrip.Statement .pop_DE := fun _ _ => rfl
theorem Laws.RoundTrip.jp_NC_nn (nn : Word) : Laws.RoundTrip.Statement (.jp_NC_nn nn) :=
  fun _ _ => congrArg (fun v => Decoded.ok (.jp_NC_nn v) []) (joinBytes_halves nn)
theorem Laws.RoundTrip.invalid_D3 : Laws.RoundTrip.Statement .invalid_D3 := fun _ _ => rfl
theorem Laws.RoundTrip.call_NC_nn (nn : Word) : Laws.RoundTrip.Statement (.call_NC_nn nn) :=
  fun _ _ => congrArg (fun v => Decoded.ok (.call_NC_nn v) []) (joinBytes_halves nn)
theorem Laws.RoundTrip.push_DE : Laws.RoundTrip.Statement .push_DE := fun _ _ => rfl
theorem Laws.RoundTrip.sub_n (n : Byte) : Laws.RoundTrip.Statement (.sub_n n) := fun _ _ => rfl
theorem Laws.RoundTrip.rst_10 : Laws.RoundTrip.Statement .rst_10 := fun _ _ => rfl
theorem Laws.RoundTrip.ret_C : Laws.RoundTrip.Statement .ret_C := fun _ _ => rfl
theorem Laws.RoundTrip.reti : Laws.RoundTrip.Statement .reti := fun _ _ => rfl
theorem Laws.RoundTrip.jp_C_nn (nn : Word) : Laws.RoundTrip.Statement (.jp_C_nn nn) :=
  fun _ _ => congrArg (fun v => Decoded.ok (.jp_C_nn v) []) (joinBytes_halves nn)
theorem Laws.RoundTrip.invalid_DB : Laws.RoundTrip.Statement .invalid_DB := fun _ _ => rfl
theorem Laws.RoundTrip.call_C_nn (nn : Word) : Laws.RoundTrip.Statement (.call_C_nn nn) :=
  fun _ _ => congrArg (fun v => Decoded.ok (.call_C_nn v) []) (joinBytes_halves nn)
theorem Laws.RoundTrip.invalid_DD : Laws.RoundTrip.Statement .invalid_DD := fun _ _ => rfl
theorem Laws.RoundTrip.sbc_A_n (n : Byte) : Laws.RoundTrip.Statement (.sbc_A_n n) := fun _ _ => rfl
theorem Laws.RoundTrip.rst_18 : Laws.RoundTrip.Statement .rst_18 := fun _ _ => rfl
theorem Laws.RoundTrip.ldh_atN_A (n : Byte) : Laws.RoundTrip.Statement (.ldh_atN_A n) := fun _ _ => rfl
theorem Laws.RoundTrip.pop_HL : Laws.RoundTrip.Statement .pop_HL := fun _ _ => rfl
theorem Laws.RoundTrip.ld_atC_A : Laws.RoundTrip.Statement .ld_atC_A := fun _ _ => rfl
theorem Laws.RoundTrip.invalid_E3 : Laws.RoundTrip.Statement .invalid_E3 := fun _ _ => rfl
theorem Laws.RoundTrip.invalid_E4 : Laws.RoundTrip.Statement .invalid_E4 := fun _ _ => rfl
theorem Laws.RoundTrip.push_HL : Laws.RoundTrip.Statement .push_HL := fun _ _ => rfl
theorem Laws.RoundTrip.and_n (n : Byte) : Laws.RoundTrip.Statement (.and_n n) := fun _ _ => rfl
theorem Laws.RoundTrip.rst_20 : Laws.RoundTrip.Statement .rst_20 := fun _ _ => rfl
theorem Laws.RoundTrip.add_SP_e (e : Byte) : Laws.RoundTrip.Statement (.add_SP_e e) := fun _ _ => rfl
theorem Laws.RoundTrip.jp_HL : Laws.RoundTrip.Statement .jp_HL := fun _ _ => rfl
theorem Laws.RoundTrip.ld_atNN_A (nn : Word) : Laws.RoundTrip.Statement (.ld_atNN_A nn) :=
  fun _ _ => congrArg (fun v => Decoded.ok (.ld_atNN_A v) []) (joinBytes_halves nn)
theorem Laws.RoundTrip.invalid_EB : Laws.RoundTrip.Statement .invalid_EB := fun _ _ => rfl
theorem Laws.RoundTrip.invalid_EC : Laws.RoundTrip.Statement .invalid_EC := fun _ _ => rfl
theorem Laws.RoundTrip.invalid_ED : Laws.RoundTrip.Statement .invalid_ED := fun _ _ => rfl
theorem Laws.RoundTrip.xor_n (n : Byte) : Laws.RoundTrip.Statement (.xor_n n) := fun _ _ => rfl
theorem Laws.RoundTrip.rst_28 : Laws.RoundTrip.Statement .rst_28 := fun _ _ => rfl
theorem Laws.RoundTrip.ldh_A_atN (n : Byte) : Laws.RoundTrip.Statement (.ldh_A_atN n) := fun _ _ => rfl
theorem Laws.RoundTrip.pop_AF : Laws.RoundTrip.Statement .pop_AF := fun _ _ => rfl
theorem Laws.RoundTrip.ld_A_atC : Laws.RoundTrip.Statement .ld_A_atC := fun _ _ => rfl
theorem Laws.RoundTrip.di : Laws.RoundTrip.Statement .di := fun _ _ => rfl
theorem Laws.RoundTrip.invalid_F4 : Laws.RoundTrip.Statement .invalid_F4 := fun _ _ => rfl
theorem Laws.RoundTrip.push_AF : Laws.RoundTrip.Statement .push_AF := fun _ _ => rfl
theorem Laws.RoundTrip.or_n (n : Byte) : Laws.RoundTrip.Statement (.or_n n) := fun _ _ => rfl
theorem Laws.RoundTrip.rst_30 : Laws.RoundTrip.Statement .rst_30 := fun _ _ => rfl
theorem Laws.RoundTrip.ld_HL_SPe (e : Byte) : Laws.RoundTrip.Statement (.ld_HL_SPe e) := fun _ _ => rfl
theorem Laws.RoundTrip.ld_SP_HL : Laws.RoundTrip.Statement .ld_SP_HL := fun _ _ => rfl
theorem Laws.RoundTrip.ld_A_atNN (nn : Word) : Laws.RoundTrip.Statement (.ld_A_atNN nn) :=
  fun _ _ => congrArg (fun v => Decoded.ok (.ld_A_atNN v) []) (joinBytes_halves nn)
theorem Laws.RoundTrip.ei : Laws.RoundTrip.Statement .ei := fun _ _ => rfl
theorem Laws.RoundTrip.invalid_FC : Laws.RoundTrip.Statement .invalid_FC := fun _ _ => rfl
theorem Laws.RoundTrip.invalid_FD : Laws.RoundTrip.Statement .invalid_FD := fun _ _ => rfl
theorem Laws.RoundTrip.cp_n (n : Byte) : Laws.RoundTrip.Statement (.cp_n n) := fun _ _ => rfl
theorem Laws.RoundTrip.rst_38 : Laws.RoundTrip.Statement .rst_38 := fun _ _ => rfl
theorem Laws.RoundTrip.rlc_B : Laws.RoundTrip.Statement .rlc_B := fun _ _ => rfl
theorem Laws.RoundTrip.rlc_C : Laws.RoundTrip.Statement .rlc_C := fun _ _ => rfl
theorem Laws.RoundTrip.rlc_D : Laws.RoundTrip.Statement .rlc_D := fun _ _ => rfl
theorem Laws.RoundTrip.rlc_E : Laws.RoundTrip.Statement .rlc_E := fun _ _ => rfl
theorem Laws.RoundTrip.rlc_H : Laws.RoundTrip.Statement .rlc_H := fun _ _ => rfl
theorem Laws.RoundTrip.rlc_L : Laws.RoundTrip.Statement .rlc_L := fun _ _ => rfl
theorem Laws.RoundTrip.rlc_atHL : Laws.RoundTrip.Statement .rlc_atHL := fun _ _ => rfl
theorem Laws.RoundTrip.rlc_A : Laws.RoundTrip.Statement .rlc_A := fun _ _ => rfl
theorem Laws.RoundTrip.rrc_B : Laws.RoundTrip.Statement .rrc_B := fun _ _ => rfl
theorem Laws.RoundTrip.rrc_C : Laws.RoundTrip.Statement .rrc_C := fun _ _ => rfl
theorem Laws.RoundTrip.rrc_D : Laws.RoundTrip.Statement .rrc_D := fun _ _ => rfl
theorem Laws.RoundTrip.rrc_E : Laws.RoundTrip.Statement .rrc_E := fun _ _ => rfl
theorem Laws.RoundTrip.rrc_H : Laws.RoundTrip.Statement .rrc_H := fun _ _ => rfl
theorem Laws.RoundTrip.rrc_L : Laws.RoundTrip.Statement .rrc_L := fun _ _ => rfl
theorem Laws.RoundTrip.rrc_atHL : Laws.RoundTrip.Statement .rrc_atHL := fun _ _ => rfl
theorem Laws.RoundTrip.rrc_A : Laws.RoundTrip.Statement .rrc_A := fun _ _ => rfl
theorem Laws.RoundTrip.rl_B : Laws.RoundTrip.Statement .rl_B := fun _ _ => rfl
theorem Laws.RoundTrip.rl_C : Laws.RoundTrip.Statement .rl_C := fun _ _ => rfl
theorem Laws.RoundTrip.rl_D : Laws.RoundTrip.Statement .rl_D := fun _ _ => rfl
theorem Laws.RoundTrip.rl_E : Laws.RoundTrip.Statement .rl_E := fun _ _ => rfl
theorem Laws.RoundTrip.rl_H : Laws.RoundTrip.Statement .rl_H := fun _ _ => rfl
theorem Laws.RoundTrip.rl_L : Laws.RoundTrip.Statement .rl_L := fun _ _ => rfl
theorem Laws.RoundTrip.rl_atHL : Laws.RoundTrip.Statement .rl_atHL := fun _ _ => rfl
theorem Laws.RoundTrip.rl_A : Laws.RoundTrip.Statement .rl_A := fun _ _ => rfl
theorem Laws.RoundTrip.rr_B : Laws.RoundTrip.Statement .rr_B := fun _ _ => rfl
theorem Laws.RoundTrip.rr_C : Laws.RoundTrip.Statement .rr_C := fun _ _ => rfl
theorem Laws.RoundTrip.rr_D : Laws.RoundTrip.Statement .rr_D := fun _ _ => rfl
theorem Laws.RoundTrip.rr_E : Laws.RoundTrip.Statement .rr_E := fun _ _ => rfl
theorem Laws.RoundTrip.rr_H : Laws.RoundTrip.Statement .rr_H := fun _ _ => rfl
theorem Laws.RoundTrip.rr_L : Laws.RoundTrip.Statement .rr_L := fun _ _ => rfl
theorem Laws.RoundTrip.rr_atHL : Laws.RoundTrip.Statement .rr_atHL := fun _ _ => rfl
theorem Laws.RoundTrip.rr_A : Laws.RoundTrip.Statement .rr_A := fun _ _ => rfl
theorem Laws.RoundTrip.sla_B : Laws.RoundTrip.Statement .sla_B := fun _ _ => rfl
theorem Laws.RoundTrip.sla_C : Laws.RoundTrip.Statement .sla_C := fun _ _ => rfl
theorem Laws.RoundTrip.sla_D : Laws.RoundTrip.Statement .sla_D := fun _ _ => rfl
theorem Laws.RoundTrip.sla_E : Laws.RoundTrip.Statement .sla_E := fun _ _ => rfl
theorem Laws.RoundTrip.sla_H : Laws.RoundTrip.Statement .sla_H := fun _ _ => rfl
theorem Laws.RoundTrip.sla_L : Laws.RoundTrip.Statement .sla_L := fun _ _ => rfl
theorem Laws.RoundTrip.sla_atHL : Laws.RoundTrip.Statement .sla_atHL := fun _ _ => rfl
theorem Laws.RoundTrip.sla_A : Laws.RoundTrip.Statement .sla_A := fun _ _ => rfl
theorem Laws.RoundTrip.sra_B : Laws.RoundTrip.Statement .sra_B := fun _ _ => rfl
theorem Laws.RoundTrip.sra_C : Laws.RoundTrip.Statement .sra_C := fun _ _ => rfl
theorem Laws.RoundTrip.sra_D : Laws.RoundTrip.Statement .sra_D := fun _ _ => rfl
theorem Laws.RoundTrip.sra_E : Laws.RoundTrip.Statement .sra_E := fun _ _ => rfl
theorem Laws.RoundTrip.sra_H : Laws.RoundTrip.Statement .sra_H := fun _ _ => rfl
theorem Laws.RoundTrip.sra_L : Laws.RoundTrip.Statement .sra_L := fun _ _ => rfl
theorem Laws.RoundTrip.sra_atHL : Laws.RoundTrip.Statement .sra_atHL := fun _ _ => rfl
theorem Laws.RoundTrip.sra_A : Laws.RoundTrip.Statement .sra_A := fun _ _ => rfl
theorem Laws.RoundTrip.swap_B : Laws.RoundTrip.Statement .swap_B := fun _ _ => rfl
theorem Laws.RoundTrip.swap_C : Laws.RoundTrip.Statement .swap_C := fun _ _ => rfl
theorem Laws.RoundTrip.swap_D : Laws.RoundTrip.Statement .swap_D := fun _ _ => rfl
theorem Laws.RoundTrip.swap_E : Laws.RoundTrip.Statement .swap_E := fun _ _ => rfl
theorem Laws.RoundTrip.swap_H : Laws.RoundTrip.Statement .swap_H := fun _ _ => rfl
theorem Laws.RoundTrip.swap_L : Laws.RoundTrip.Statement .swap_L := fun _ _ => rfl
theorem Laws.RoundTrip.swap_atHL : Laws.RoundTrip.Statement .swap_atHL := fun _ _ => rfl
theorem Laws.RoundTrip.swap_A : Laws.RoundTrip.Statement .swap_A := fun _ _ => rfl
theorem Laws.RoundTrip.srl_B : Laws.RoundTrip.Statement .srl_B := fun _ _ => rfl
theorem Laws.RoundTrip.srl_C : Laws.RoundTrip.Statement .srl_C := fun _ _ => rfl
theorem Laws.RoundTrip.srl_D : Laws.RoundTrip.Statement .srl_D := fun _ _ => rfl
theorem Laws.RoundTrip.srl_E : Laws.RoundTrip.Statement .srl_E := fun _ _ => rfl
theorem Laws.RoundTrip.srl_H : Laws.RoundTrip.Statement .srl_H := fun _ _ => rfl
theorem Laws.RoundTrip.srl_L : Laws.RoundTrip.Statement .srl_L := fun _ _ => rfl
theorem Laws.RoundTrip.srl_atHL : Laws.RoundTrip.Statement .srl_atHL := fun _ _ => rfl
theorem Laws.RoundTrip.srl_A : Laws.RoundTrip.Statement .srl_A := fun _ _ => rfl
theorem Laws.RoundTrip.bit_0_B : Laws.RoundTrip.Statement .bit_0_B := fun _ _ => rfl
theorem Laws.RoundTrip.bit_0_C : Laws.RoundTrip.Statement .bit_0_C := fun _ _ => rfl
theorem Laws.RoundTrip.bit_0_D : Laws.RoundTrip.Statement .bit_0_D := fun _ _ => rfl
theorem Laws.RoundTrip.bit_0_E : Laws.RoundTrip.Statement .bit_0_E := fun _ _ => rfl
theorem Laws.RoundTrip.bit_0_H : Laws.RoundTrip.Statement .bit_0_H := fun _ _ => rfl
theorem Laws.RoundTrip.bit_0_L : Laws.RoundTrip.Statement .bit_0_L := fun _ _ => rfl
theorem Laws.RoundTrip.bit_0_atHL : Laws.RoundTrip.Statement .bit_0_atHL := fun _ _ => rfl
theorem Laws.RoundTrip.bit_0_A : Laws.RoundTrip.Statement .bit_0_A := fun _ _ => rfl
theorem Laws.RoundTrip.bit_1_B : Laws.RoundTrip.Statement .bit_1_B := fun _ _ => rfl
theorem Laws.RoundTrip.bit_1_C : Laws.RoundTrip.Statement .bit_1_C := fun _ _ => rfl
theorem Laws.RoundTrip.bit_1_D : Laws.RoundTrip.Statement .bit_1_D := fun _ _ => rfl
theorem Laws.RoundTrip.bit_1_E : Laws.RoundTrip.Statement .bit_1_E := fun _ _ => rfl
theorem Laws.RoundTrip.bit_1_H : Laws.RoundTrip.Statement .bit_1_H := fun _ _ => rfl
theorem Laws.RoundTrip.bit_1_L : Laws.RoundTrip.Statement .bit_1_L := fun _ _ => rfl
theorem Laws.RoundTrip.bit_1_atHL : Laws.RoundTrip.Statement .bit_1_atHL := fun _ _ => rfl
theorem Laws.RoundTrip.bit_1_A : Laws.RoundTrip.Statement .bit_1_A := fun _ _ => rfl
theorem Laws.RoundTrip.bit_2_B : Laws.RoundTrip.Statement .bit_2_B := fun _ _ => rfl
theorem Laws.RoundTrip.bit_2_C : Laws.RoundTrip.Statement .bit_2_C := fun _ _ => rfl
theorem Laws.RoundTrip.bit_2_D : Laws.RoundTrip.Statement .bit_2_D := fun _ _ => rfl
theorem Laws.RoundTrip.bit_2_E : Laws.RoundTrip.Statement .bit_2_E := fun _ _ => rfl
theorem Laws.RoundTrip.bit_2_H : Laws.RoundTrip.Statement .bit_2_H := fun _ _ => rfl
theorem Laws.RoundTrip.bit_2_L : Laws.RoundTrip.Statement .bit_2_L := fun _ _ => rfl
theorem Laws.RoundTrip.bit_2_atHL : Laws.RoundTrip.Statement .bit_2_atHL := fun _ _ => rfl
theorem Laws.RoundTrip.bit_2_A : Laws.RoundTrip.Statement .bit_2_A := fun _ _ => rfl
theorem Laws.RoundTrip.bit_3_B : Laws.RoundTrip.Statement .bit_3_B := fun _ _ => rfl
theorem Laws.RoundTrip.bit_3_C : Laws.RoundTrip.Statement .bit_3_C := fun _ _ => rfl
theorem Laws.RoundTrip.bit_3_D : Laws.RoundTrip.Statement .bit_3_D := fun _ _ => rfl
theorem Laws.RoundTrip.bit_3_E : Laws.RoundTrip.Statement .bit_3_E := fun _ _ => rfl
theorem Laws.RoundTrip.bit_3_H : Laws.RoundTrip.Statement .bit_3_H := fun _ _ => rfl
theorem Laws.RoundTrip.bit_3_L : Laws.RoundTrip.Statement .bit_3_L := fun _ _ => rfl
theorem Laws.RoundTrip.bit_3_atHL : Laws.RoundTrip.Statement .bit_3_atHL := fun _ _ => rfl
theorem Laws.RoundTrip.bit_3_A : Laws.RoundTrip.Statement .bit_3_A := fun _ _ => rfl
theorem Laws.RoundTrip.bit_4_B : Laws.RoundTrip.Statement .bit_4_B := fun _ _ => rfl
theorem Laws.RoundTrip.bit_4_C : Laws.RoundTrip.Statement .bit_4_C := fun _ _ => rfl
theorem Laws.RoundTrip.bit_4_D : Laws.RoundTrip.Statement .bit_4_D := fun _ _ => rfl
theorem Laws.RoundTrip.bit_4_E : Laws.RoundTrip.Statement .bit_4_E := fun _ _ => rfl
theorem Laws.RoundTrip.bit_4_H : Laws.RoundTrip.Statement .bit_4_H := fun _ _ => rfl
theorem Laws.RoundTrip.bit_4_L : Laws.RoundTrip.Statement .bit_4_L := fun _ _ => rfl
theorem Laws.RoundTrip.bit_4_atHL : Laws.RoundTrip.Statement .bit_4_atHL := fun _ _ => rfl
theorem Laws.RoundTrip.bit_4_A : Laws.RoundTrip.Statement .bit_4_A := fun _ _ => rfl
theorem Laws.RoundTrip.bit_5_B : Laws.RoundTrip.Statement .bit_5_B := fun _ _ => rfl
theorem Laws.RoundTrip.bit_5_C : Laws.RoundTrip.Statement .bit_5_C := fun _ _ => rfl
theorem Laws.RoundTrip.bit_5_D : Laws.RoundTrip.Statement .bit_5_D := fun _ _ => rfl
theorem Laws.RoundTrip.bit_5_E : Laws.RoundTrip.Statement .bit_5_E := fun _ _ => rfl
theorem Laws.RoundTrip.bit_5_H : Laws.RoundTrip.Statement .bit_5_H := fun _ _ => rfl
theorem Laws.RoundTrip.bit_5_L : Laws.RoundTrip.Statement .bit_5_L := fun _ _ => rfl
theorem Laws.RoundTrip.bit_5_atHL : Laws.RoundTrip.Statement .bit_5_atHL := fun _ _ => rfl
theorem Laws.RoundTrip.bit_5_A : Laws.RoundTrip.Statement .bit_5_A := fun _ _ => rfl
theorem Laws.RoundTrip.bit_6_B : Laws.RoundTrip.Statement .bit_6_B := fun _ _ => rfl
theorem Laws.RoundTrip.bit_6_C : Laws.RoundTrip.Statement .bit_6_C := fun _ _ => rfl
theorem Laws.RoundTrip.bit_6_D : Laws.RoundTrip.Statement .bit_6_D := fun _ _ => rfl
theorem Laws.RoundTrip.bit_6_E : Laws.RoundTrip.Statement .bit_6_E := fun _ _ => rfl
theorem Laws.RoundTrip.bit_6_H : Laws.RoundTrip.Statement .bit_6_H := fun _ _ => rfl
theorem Laws.RoundTrip.bit_6_L : Laws.RoundTrip.Statement .bit_6_L := fun _ _ => rfl
theorem Laws.RoundTrip.bit_6_atHL : Laws.RoundTrip.Statement .bit_6_atHL := fun _ _ => rfl
theorem Laws.RoundTrip.bit_6_A : Laws.RoundTrip.Statement .bit_6_A := fun _ _ => rfl
theorem Laws.RoundTrip.bit_7_B : Laws.RoundTrip.Statement .bit_7_B := fun _ _ => rfl
theorem Laws.RoundTrip.bit_7_C : Laws.RoundTrip.Statement .bit_7_C := fun _ _ => rfl
theorem Laws.RoundTrip.bit_7_D : Laws.RoundTrip.Statement .bit_7_D := fun _ _ => rfl
theorem Laws.RoundTrip.bit_7_E : Laws.RoundTrip.Statement .bit_7_E := fun _ _ => rfl
theorem Laws.RoundTrip.bit_7_H : Laws.RoundTrip.Statement .bit_7_H := fun _ _ => rfl
theorem Laws.RoundTrip.bit_7_L : Laws.RoundTrip.Statement .bit_7_L := fun _ _ => rfl
theorem Laws.RoundTrip.bit_7_atHL : Laws.RoundTrip.Statement .bit_7_atHL := fun _ _ => rfl
theorem Laws.RoundTrip.bit_7_A : Laws.RoundTrip.Statement .bit_7_A := fun _ _ => rfl
theorem Laws.RoundTrip.res_0_B : Laws.RoundTrip.Statement .res_0_B := fun _ _ => rfl
theorem Laws.RoundTrip.res_0_C : Laws.RoundTrip.Statement .res_0_C := fun _ _ => rfl
theorem Laws.RoundTrip.res_0_D : Laws.RoundTrip.Statement .res_0_D := fun _ _ => rfl
theorem Laws.RoundTrip.res_0_E : Laws.RoundTrip.Statement .res_0_E := fun _ _ => rfl
theorem Laws.RoundTrip.res_0_H : Laws.RoundTrip.Statement .res_0_H := fun _ _ => rfl
theorem Laws.RoundTrip.res_0_L : Laws.RoundTrip.Statement .res_0_L := fun _ _ => rfl
theorem Laws.RoundTrip.res_0_atHL : Laws.RoundTrip.Statement .res_0_atHL := fun _ _ => rfl
theorem Laws.RoundTrip.res_0_A : Laws.RoundTrip.Statement .res_0_A := fun _ _ => rfl
theorem Laws.RoundTrip.res_1_B : Laws.RoundTrip.Statement .res_1_B := fun _ _ => rfl
theorem Laws.RoundTrip.res_1_C : Laws.RoundTrip.Statement .res_1_C := fun _ _ => rfl
theorem Laws.RoundTrip.res_1_D : Laws.RoundTrip.Statement .res_1_D := fun _ _ => rfl
theorem Laws.RoundTrip.res_1_E : Laws.RoundTrip.Statement .res_1_E := fun _ _ => rfl
theorem Laws.RoundTrip.res_1_H : Laws.RoundTrip.Statement .res_1_H := fun _ _ => rfl
theorem Laws.RoundTrip.res_1_L : Laws.RoundTrip.Statement .res_1_L := fun _ _ => rfl
theorem Laws.RoundTrip.res_1_atHL : Laws.RoundTrip.Statement .res_1_atHL := fun _ _ => rfl
theorem Laws.RoundTrip.res_1_A : Laws.RoundTrip.Statement .res_1_A := fun _ _ => rfl
theorem Laws.RoundTrip.res_2_B : Laws.RoundTrip.Statement .res_2_B := fun _ _ => rfl
theorem Laws.RoundTrip.res_2_C : Laws.RoundTrip.Statement .res_2_C := fun _ _ => rfl
theorem Laws.RoundTrip.res_2_D : Laws.RoundTrip.Statement .res_2_D := fun _ _ => rfl
theorem Laws.RoundTrip.res_2_E : Laws.RoundTrip.Statement .res_2_E := fun _ _ => rfl
theorem Laws.RoundTrip.res_2_H : Laws.RoundTrip.Statement .res_2_H := fun _ _ => rfl
theorem Laws.RoundTrip.res_2_L : Laws.RoundTrip.Statement .res_2_L := fun _ _ => rfl
theorem Laws.RoundTrip.res_2_atHL : Laws.RoundTrip.Statement .res_2_atHL := fun _ _ => rfl
theorem Laws.RoundTrip.res_2_A : Laws.RoundTrip.Statement .res_2_A := fun _ _ => rfl
theorem Laws.RoundTrip.res_3_B : Laws.RoundTrip.Statement .res_3_B := fun _ _ => rfl
theorem Laws.RoundTrip.res_3_C : Laws.RoundTrip.Statement .res_3_C := fun _ _ => rfl
theorem Laws.RoundTrip.res_3_D : Laws.RoundTrip.Statement .res_3_D := fun _ _ => rfl
theorem Laws.RoundTrip.res_3_E : Laws.RoundTrip.Statement .res_3_E := fun _ _ => rfl
theorem Laws.RoundTrip.res_3_H : Laws.RoundTrip.Statement .res_3_H := fun _ _ => rfl
theorem Laws.RoundTrip.res_3_L : Laws.RoundTrip.Statement .res_3_L := fun _ _ => rfl
theorem Laws.RoundTrip.res_3_atHL : Laws.RoundTrip.Statement .res_3_atHL := fun _ _ => rfl
theorem Laws.RoundTrip.res_3_A : Laws.RoundTrip.Statement .res_3_A := fun _ _ => rfl
theorem Laws.RoundTrip.res_4_B : Laws.RoundTrip.Statement .res_4_B := fun _ _ => rfl
theorem Laws.RoundTrip.res_4_C : Laws.RoundTrip.Statement .res_4_C := fun _ _ => rfl
theorem Laws.RoundTrip.res_4_D : Laws.RoundTrip.Statement .res_4_D := fun _ _ => rfl
theorem Laws.RoundTrip.res_4_E : Laws.RoundTrip.Statement .res_4_E := fun _ _ => rfl
theorem Laws.RoundTrip.res_4_H : Laws.RoundTrip.Statement .res_4_H := fun _ _ => rfl
theorem Laws.RoundTrip.res_4_L : Laws.RoundTrip.Statement .res_4_L := fun _ _ => rfl
theorem Laws.RoundTrip.res_4_atHL : Laws.RoundTrip.Statement .res_4_atHL := fun _ _ => rfl
theorem Laws.RoundTrip.res_4_A : Laws.RoundTrip.Statement .res_4_A := fun _ _ => rfl
theorem Laws.RoundTrip.res_5_B : Laws.RoundTrip.Statement .res_5_B := fun _ _ => rfl
theorem Laws.RoundTrip.res_5_C : Laws.RoundTrip.Statement .res_5_C := fun _ _ => rfl
theorem Laws.RoundTrip.res_5_D : Laws.RoundTrip.Statement .res_5_D := fun _ _ => rfl
theorem Laws.RoundTrip.res_5_E : Laws.RoundTrip.Statement .res_5_E := fun _ _ => rfl
theorem Laws.RoundTrip.res_5_H : Laws.RoundTrip.Statement .res_5_H := fun _ _ => rfl
theorem Laws.RoundTrip.res_5_L : Laws.RoundTrip.Statement .res_5_L := fun _ _ => rfl
theorem Laws.RoundTrip.res_5_atHL : Laws.RoundTrip.Statement .res_5_atHL := fun _ _ => rfl
theorem Laws.RoundTrip.res_5_A : Laws.RoundTrip.Statement .res_5_A := fun _ _ => rfl
theorem Laws.RoundTrip.res_6_B : Laws.RoundTrip.Statement .res_6_B := fun _ _ => rfl
theorem Laws.RoundTrip.res_6_C : Laws.RoundTrip.Statement .res_6_C := fun _ _ => rfl
theorem Laws.RoundTrip.res_6_D : Laws.RoundTrip.Statement .res_6_D := fun _ _ => rfl
theorem Laws.RoundTrip.res_6_E : Laws.RoundTrip.Statement .res_6_E := fun _ _ => rfl
theorem Laws.RoundTrip.res_6_H : Laws.RoundTrip.Statement .res_6_H := fun _ _ => rfl
theorem Laws.RoundTrip.res_6_L : Laws.RoundTrip.Statement .res_6_L := fun _ _ => rfl
theorem Laws.RoundTrip.res_6_atHL : Laws.RoundTrip.Statement .res_6_atHL := fun _ _ => rfl
theorem Laws.RoundTrip.res_6_A : Laws.RoundTrip.Statement .res_6_A := fun _ _ => rfl
theorem Laws.RoundTrip.res_7_B : Laws.RoundTrip.Statement .res_7_B := fun _ _ => rfl
theorem Laws.RoundTrip.res_7_C : Laws.RoundTrip.Statement .res_7_C := fun _ _ => rfl
theorem Laws.RoundTrip.res_7_D : Laws.RoundTrip.Statement .res_7_D := fun _ _ => rfl
theorem Laws.RoundTrip.res_7_E : Laws.RoundTrip.Statement .res_7_E := fun _ _ => rfl
theorem Laws.RoundTrip.res_7_H : Laws.RoundTrip.Statement .res_7_H := fun _ _ => rfl
theorem Laws.RoundTrip.res_7_L : Laws.RoundTrip.Statement .res_7_L := fun _ _ => rfl
theorem Laws.RoundTrip.res_7_atHL : Laws.RoundTrip.Statement .res_7_atHL := fun _ _ => rfl
theorem Laws.RoundTrip.res_7_A : Laws.RoundTrip.Statement .res_7_A := fun _ _ => rfl
theorem Laws.RoundTrip.set_0_B : Laws.RoundTrip.Statement .set_0_B := fun _ _ => rfl
theorem Laws.RoundTrip.set_0_C : Laws.RoundTrip.Statement .set_0_C := fun _ _ => rfl
theorem Laws.RoundTrip.set_0_D : Laws.RoundTrip.Statement .set_0_D := fun _ _ => rfl
theorem Laws.RoundTrip.set_0_E : Laws.RoundTrip.Statement .set_0_E := fun _ _ => rfl
theorem Laws.RoundTrip.set_0_H : Laws.RoundTrip.Statement .set_0_H := fun _ _ => rfl
theorem Laws.RoundTrip.set_0_L : Laws.RoundTrip.Statement .set_0_L := fun _ _ => rfl
theorem Laws.RoundTrip.set_0_atHL : Laws.RoundTrip.Statement .set_0_atHL := fun _ _ => rfl
theorem Laws.RoundTrip.set_0_A : Laws.RoundTrip.Statement .set_0_A := fun _ _ => rfl
theorem Laws.RoundTrip.set_1_B : Laws.RoundTrip.Statement .set_1_B := fun _ _ => rfl
theorem Laws.RoundTrip.set_1_C : Laws.RoundTrip.Statement .set_1_C := fun _ _ => rfl
theorem Laws.RoundTrip.set_1_D : Laws.RoundTrip.Statement .set_1_D := fun _ _ => rfl
theorem Laws.RoundTrip.set_1_E : Laws.RoundTrip.Statement .set_1_E := fun _ _ => rfl
theorem Laws.RoundTrip.set_1_H : Laws.RoundTrip.Statement .set_1_H := fun _ _ => rfl
theorem Laws.RoundTrip.set_1_L : Laws.RoundTrip.Statement .set_1_L := fun _ _ => rfl
theorem Laws.RoundTrip.set_1_atHL : Laws.RoundTrip.Statement .set_1_atHL := fun _ _ => rfl
theorem Laws.RoundTrip.set_1_A : Laws.RoundTrip.Statement .set_1_A := fun _ _ => rfl
theorem Laws.RoundTrip.set_2_B : Laws.RoundTrip.Statement .set_2_B := fun _ _ => rfl
theorem Laws.RoundTrip.set_2_C : Laws.RoundTrip.Statement .set_2_C := fun _ _ => rfl
theorem Laws.RoundTrip.set_2_D : Laws.RoundTrip.Statement .set_2_D := fun _ _ => rfl
theorem Laws.RoundTrip.set_2_E : Laws.RoundTrip.Statement .set_2_E := fun _ _ => rfl
theorem Laws.RoundTrip.set_2_H : Laws.RoundTrip.Statement .set_2_H := fun _ _ => rfl
theorem Laws.RoundTrip.set_2_L : Laws.RoundTrip.Statement .set_2_L := fun _ _ => rfl
theorem Laws.RoundTrip.set_2_atHL : Laws.RoundTrip.Statement .set_2_atHL := fun _ _ => rfl
theorem Laws.RoundTrip.set_2_A : Laws.RoundTrip.Statement .set_2_A := fun _ _ => rfl
theorem Laws.RoundTrip.set_3_B : Laws.RoundTrip.Statement .set_3_B := fun _ _ => rfl
theorem Laws.RoundTrip.set_3_C : Laws.RoundTrip.Statement .set_3_C := fun _ _ => rfl
theorem Laws.RoundTrip.set_3_D : Laws.RoundTrip.Statement .set_3_D := fun _ _ => rfl
theorem Laws.RoundTrip.set_3_E : Laws.RoundTrip.Statement .set_3_E := fun _ _ => rfl
theorem Laws.RoundTrip.set_3_H : Laws.RoundTrip.Statement .set_3_H := fun _ _ => rfl
theorem Laws.RoundTrip.set_3_L : Laws.RoundTrip.Statement .set_3_L := fun _ _ => rfl
theorem Laws.RoundTrip.set_3_atHL : Laws.RoundTrip.Statement .set_3_atHL := fun _ _ => rfl
theorem Laws.RoundTrip.set_3_A : Laws.RoundTrip.Statement .set_3_A := fun _ _ => rfl
theorem Laws.RoundTrip.set_4_B : Laws.RoundTrip.Statement .set_4_B := fun _ _ => rfl
theorem Laws.RoundTrip.set_4_C : Laws.RoundTrip.Statement .set_4_C := fun _ _ => rfl
theorem Laws.RoundTrip.set_4_D : Laws.RoundTrip.Statement .set_4_D := fun _ _ => rfl
theorem Laws.RoundTrip.set_4_E : Laws.RoundTrip.Statement .set_4_E := fun _ _ => rfl
theorem Laws.RoundTrip.set_4_H : Laws.RoundTrip.Statement .set_4_H := fun _ _ => rfl
theorem Laws.RoundTrip.set_4_L : Laws.RoundTrip.Statement .set_4_L := fun _ _ => rfl
theorem Laws.RoundTrip.set_4_atHL : Laws.RoundTrip.Statement .set_4_atHL := fun _ _ => rfl
theorem Laws.RoundTrip.set_4_A : Laws.RoundTrip.Statement .set_4_A := fun _ _ => rfl
theorem Laws.RoundTrip.set_5_B : Laws.RoundTrip.Statement .set_5_B := fun _ _ => rfl
theorem Laws.RoundTrip.set_5_C : Laws.RoundTrip.Statement .set_5_C := fun _ _ => rfl
theorem Laws.RoundTrip.set_5_D : Laws.RoundTrip.Statement .set_5_D := fun _ _ => rfl
theorem Laws.RoundTrip.set_5_E : Laws.RoundTrip.Statement .set_5_E := fun _ _ => rfl
theorem Laws.RoundTrip.set_5_H : Laws.RoundTrip.Statement .set_5_H := fun _ _ => rfl
theorem Laws.RoundTrip.set_5_L : Laws.RoundTrip.Statement .set_5_L := fun _ _ => rfl
theorem Laws.RoundTrip.set_5_atHL : Laws.RoundTrip.Statement .set_5_atHL := fun _ _ => rfl
theorem Laws.RoundTrip.set_5_A : Laws.RoundTrip.Statement .set_5_A := fun _ _ => rfl
theorem Laws.RoundTrip.set_6_B : Laws.RoundTrip.Statement .set_6_B := fun _ _ => rfl
theorem Laws.RoundTrip.set_6_C : Laws.RoundTrip.Statement .set_6_C := fun _ _ => rfl
theorem Laws.RoundTrip.set_6_D : Laws.RoundTrip.Statement .set_6_D := fun _ _ => rfl
theorem Laws.RoundTrip.set_6_E : Laws.RoundTrip.Statement .set_6_E := fun _ _ => rfl
theorem Laws.RoundTrip.set_6_H : Laws.RoundTrip.Statement .set_6_H := fun _ _ => rfl
theorem Laws.RoundTrip.set_6_L : Laws.RoundTrip.Statement .set_6_L := fun _ _ => rfl
theorem Laws.RoundTrip.set_6_atHL : Laws.RoundTrip.Statement .set_6_atHL := fun _ _ => rfl
theorem Laws.RoundTrip.set_6_A : Laws.RoundTrip.Statement .set_6_A := fun _ _ => rfl
theorem Laws.RoundTrip.set_7_B : Laws.RoundTrip.Statement .set_7_B := fun _ _ => rfl
theorem Laws.RoundTrip.set_7_C : Laws.RoundTrip.Statement .set_7_C := fun _ _ => rfl
theorem Laws.RoundTrip.set_7_D : Laws.RoundTrip.Statement .set_7_D := fun _ _ => rfl
theorem Laws.RoundTrip.set_7_E : Laws.RoundTrip.Statement .set_7_E := fun _ _ => rfl
theorem Laws.RoundTrip.set_7_H : Laws.RoundTrip.Statement .set_7_H := fun _ _ => rfl
theorem Laws.RoundTrip.set_7_L : Laws.RoundTrip.Statement .set_7_L := fun _ _ => rfl
theorem Laws.RoundTrip.set_7_atHL : Laws.RoundTrip.Statement .set_7_atHL := fun _ _ => rfl
theorem Laws.RoundTrip.set_7_A : Laws.RoundTrip.Statement .set_7_A := fun _ _ => rfl

end Sys2Proof
end

