-- ==== Sys2Proof/Laws/Stack.lean ====
section
/-! SUPPORT. Push, pop and a fetched byte as one record update each, on the oracle (spec/20_memory.md
R62, R68, R69); for the plain array see Laws/Bus.lean. -/

namespace Sys2Proof.Machine

/-- `Push16` on the oracle (R62, R68). -/
theorem State.push16_oracle (s : State) (v : Word) (h : s.params.bus = .oracle) :
    s.push16 v =
      { s with
        sp := s.sp - 2
        busLog := s.busLog ++ [.write (s.sp - 1) (hiByte v), .write (s.sp - 2) (loByte v)] } := by
  have e : s.sp - 1 - 1 = s.sp - 2 := by rw [BitVec.sub_sub]; rfl
  unfold State.push16
  simp only [State.busWrite, h, e, List.append_assoc, List.cons_append, List.nil_append]

/-- `Pop16` on the oracle (R62, R69). -/
theorem State.pop16_oracle (s : State) (h : s.params.bus = .oracle) :
    s.pop16 = (joinBytes (Config.busDraw (s.draws + 1)) (Config.busDraw s.draws),
      { s with
        sp := s.sp + 2, draws := s.draws + 2
        busLog := s.busLog ++
          [.read s.sp (Config.busDraw s.draws), .read (s.sp + 1) (Config.busDraw (s.draws + 1))] }) := by
  have e : s.sp + 1 + 1 = s.sp + 2 := by rw [BitVec.add_assoc]; rfl
  unfold State.pop16
  simp only [State.busRead, h, e, List.append_assoc, List.cons_append, List.nil_append]

/-- A fetched byte on the oracle (R62, R92). -/
theorem State.fetchByte_oracle (s : State) (h : s.params.bus = .oracle) :
    s.fetchByte = (Config.busDraw s.draws,
      { s with
        pc := s.pc + 1, draws := s.draws + 1, busLog := s.busLog ++ [.read s.pc (Config.busDraw s.draws)] }) := by
  unfold State.fetchByte
  simp only [State.busRead, h]

end Sys2Proof.Machine
end

