-- ==== Sys2Proof/Laws/Step.lean ====
section
/-! SUPPORT. What a step can do, said once: an instruction always has a next state, and a step goes one of the four ways
of spec/60_exceptions.md R353. -/

namespace Sys2Proof.Machine

/-- Every instruction has a next state (R352). -/
theorem exec_next (i : Instr) (s : State) : ∃ t, exec i s = .next t := by
  cases i <;> exact ⟨_, rfl⟩

/-- The four ways of a step, each with what holds when it is taken and the state it gives. -/
theorem step_cases (s t : State) (h : step s = .next t) :
    (∃ x, s.outside.fault = some x ∧ t = s.outside.reportFault x) ∨
    (s.outside.fault = none ∧ s.outside.mode ≠ .running ∧ s.stimulus.irq = false ∧ t = s.outside.idle) ∨
    (s.outside.fault = none ∧ s.outside.params.irqDispatch = true ∧ s.stimulus.irq = true ∧ s.outside.ime = true ∧
      t = s.outside.wake.dispatchIrq s.stimulus.irqVector) ∨
    (s.outside.fault = none ∧ (s.outside.mode = .running ∨ s.stimulus.irq = true) ∧
      ¬ (s.outside.params.irqDispatch = true ∧ s.stimulus.irq = true ∧ s.outside.ime = true) ∧
      ∃ u, exec s.outside.wake.fetch.1 s.outside.wake.fetch.2 = .next u ∧ t = u.settleIme s.outside.imePending) := by
  simp only [step, State.way] at h
  cases hf : s.outside.fault with
  | some x =>
    simp only [hf] at h
    exact .inl ⟨x, rfl, by cases h; rfl⟩
  | none =>
    simp only [hf] at h
    by_cases hidle : s.outside.mode ≠ .running ∧ s.stimulus.irq = false
    · rw [if_pos hidle] at h
      exact .inr (.inl ⟨rfl, hidle.1, hidle.2, by cases h; rfl⟩)
    · rw [if_neg hidle] at h
      have hgo : s.outside.mode = .running ∨ s.stimulus.irq = true := by
        by_cases hm : s.outside.mode = .running
        · exact .inl hm
        · exact .inr (by simpa [hm] using hidle)
      by_cases hd : s.outside.params.irqDispatch = true ∧ s.stimulus.irq = true ∧ s.outside.ime = true
      · rw [if_pos hd] at h
        exact .inr (.inr (.inl ⟨rfl, hd.1, hd.2.1, hd.2.2, by cases h; rfl⟩))
      · rw [if_neg hd] at h
        obtain ⟨u, hu⟩ := exec_next s.outside.wake.fetch.1 s.outside.wake.fetch.2
        simp only [State.execute, hu] at h
        exact .inr (.inr (.inr ⟨rfl, hgo, hd, u, hu, by cases h; rfl⟩))

end Sys2Proof.Machine
end

