-- ==== Sys2Proof/Tests/Slice0.lean ====
section
/-! SUPPORT. Tests of one step each, with results from spec/95_test_vectors.md and from the spec's own examples; words
written bit by bit from spec/30_encoding.md; ill-formed terms that `wellFormed` refuses; and, for every statement with
hypotheses, a state and operands that meet them. -/

namespace Sys2Proof.Tests

open Sys2Proof Sys2Proof.Machine Sys2Proof.Claims

/-- A state with bytes written at given addresses. -/
def poke (cells : List (Word × Byte)) (s : State) : State :=
  { s with mem := cells.foldl (fun m c => m.write c.1 c.2) s.mem }

/-- A state with an instruction's bytes at PC. -/
def place (bytes : List Byte) (s : State) : State :=
  poke (bytes.zipIdx.map fun x => (s.pc + BitVec.ofNat 16 x.2, x.1)) s

/-- What `look` sees after one step that starts with the given bytes at PC. -/
def after {α : Type} (bytes : List Byte) (s : State) (look : State → α) : Option α :=
  match step (place bytes s) with
  | .next t => some (look t)
  | .fault _ => none
  | .refused _ => none

/-- What `look` sees after one step. -/
def stepped {α : Type} (s : State) (look : State → α) : Option α :=
  match step s with
  | .next t => some (look t)
  | .fault _ => none
  | .refused _ => none

/-! Ill-formed terms are refused, and their well-formed neighbours are not. -/

theorem test_prefix_is_no_instruction : Instr.wellFormed Params.default (.prefix_CB 0x7C#8) = false := by decide

theorem test_stop_without_its_second_byte : Instr.wellFormed Params.default (.stop none) = false := by decide

theorem test_stop_with_a_byte_too_many :
    Instr.wellFormed { Params.default with stopLength := .one } (.stop (some 0x00#8)) = false := by decide

theorem test_stop_of_two_bytes : Instr.wellFormed Params.default (.stop (some 0x00#8)) = true := by decide

theorem test_stop_of_one_byte :
    Instr.wellFormed { Params.default with stopLength := .one } (.stop none) = true := by decide

/-! Words written bit by bit from spec/30_encoding.md R91, R105, R106. -/

/-- R131: `01yyyzzz` with y = 4 (H), z = 3 (E). -/
theorem test_word_ld_H_E : decode Params.default [0b01_100_011#8] = .ok .ld_H_E [] := by decide

/-- R132: `00yyy110` with y = 7 (A). -/
theorem test_word_ld_A_n : decode Params.default [0b00_111_110#8, 0x42#8] = .ok (.ld_A_n 0x42#8) [] := by decide

/-- R144: `LD (HL-),A`. -/
theorem test_word_ld_atHLdec_A : decode Params.default [0b00110010#8] = .ok .ld_atHLdec_A [] := by decide

/-- R171: `00pp0001` with p = 3 (SP), the immediate low byte first (R100). -/
theorem test_word_ld_SP_nn :
    decode Params.default [0b00_11_0001#8, 0xFE#8, 0xFF#8] = .ok (.ld_SP_nn 0xFFFE#16) [] := by decide

/-- R179: `11pp0101` with p = 3 (AF). -/
theorem test_word_push_AF : decode Params.default [0b11_11_0101#8] = .ok .push_AF [] := by decide

/-- R181: `11pp0001` with p = 1 (DE). -/
theorem test_word_pop_DE : decode Params.default [0b11_01_0001#8] = .ok .pop_DE [] := by decide

/-- R201: `10011zzz` with z = 4 (H). -/
theorem test_word_sbc_A_H : decode Params.default [0b10_011_100#8] = .ok .sbc_A_H [] := by decide

/-- R208: `XOR (HL)`, operation 5, code 6. -/
theorem test_word_xor_atHL : decode Params.default [0b10_101_110#8] = .ok .xor_atHL [] := by decide

/-- R218: `00yyy101` with y = 5 (L). -/
theorem test_word_dec_L : decode Params.default [0b00_101_101#8] = .ok .dec_L [] := by decide

/-- R231: `00pp1001` with p = 2 (HL). -/
theorem test_word_add_HL_HL : decode Params.default [0b00_10_1001#8] = .ok .add_HL_HL [] := by decide

/-- R243: `RRCA`. -/
theorem test_word_rrca : decode Params.default [0b00001111#8] = .ok .rrca [] := by decide

/-- R256: the prefix, then `00101zzz` with z = 7 (A). -/
theorem test_word_sra_A : decode Params.default [0b11001011#8, 0b00_101_111#8] = .ok .sra_A [] := by decide

/-- R264: the prefix, then `10bbbzzz` with b = 7, z = 7 (A). -/
theorem test_word_res_7_A : decode Params.default [0b11001011#8, 0b10_111_111#8] = .ok .res_7_A [] := by decide

/-- R282: `110cc010` with cc = 3 (C). -/
theorem test_word_jp_C_nn :
    decode Params.default [0b110_11_010#8, 0x00#8, 0x80#8] = .ok (.jp_C_nn 0x8000#16) [] := by decide

/-- R285: `001cc000` with cc = 2 (NC). -/
theorem test_word_jr_NC_e : decode Params.default [0b001_10_000#8, 0x10#8] = .ok (.jr_NC_e 0x10#8) [] := by decide

/-- R287: `110cc100` with cc = 1 (Z). -/
theorem test_word_call_Z_nn :
    decode Params.default [0b110_01_100#8, 0x34#8, 0x12#8] = .ok (.call_Z_nn 0x1234#16) [] := by decide

/-- R289: `110cc000` with cc = 0 (NZ). -/
theorem test_word_ret_NZ : decode Params.default [0b110_00_000#8] = .ok .ret_NZ [] := by decide

/-- R300: `11ttt111` with t = 0x28. -/
theorem test_word_rst_28 : decode Params.default [0b11_101_111#8] = .ok .rst_28 [] := by decide

/-- R316: `DAA`. -/
theorem test_word_daa : decode Params.default [0b00100111#8] = .ok .daa [] := by decide

/-- R111: the second byte of STOP, of any value. -/
theorem test_word_stop : decode Params.default [0b00010000#8, 0xA5#8] = .ok (.stop (some 0xA5#8)) [] := by decide

/-- R330: 0xCB 0xD3 is `SET 2,E`, though 0xD3 alone is invalid. -/
theorem test_word_set_2_E : decode Params.default [0b11001011#8, 0b11_010_011#8] = .ok .set_2_E [] := by decide

/-- R107: 0xFD is invalid. -/
theorem test_word_invalid_FD : decode Params.default [0b11111101#8] = .ok .invalid_FD [] := by decide

/-- R90: a list that ends too early is rejected by name. -/
theorem test_truncated : decode Params.default [0xC3#8, 0x00#8] = .rejected (.truncated 0xC3#8) := by decide

/-- The bits of a table word, the first byte lowest. -/
theorem test_table_word : decodeTableWord 16 0x7CCB = some .bit_7_H := by decide

/-- The operand bytes that a table word does not reach are zero. -/
theorem test_table_word_short : decodeTableWord 8 0x21 = some (.ld_HL_nn 0x0000#16) := by decide

/-- The placed word is what the first step after reset runs. -/
theorem test_withFetchWord :
    stepped (State.reset.withFetchWord 24 0x123421) (fun t => (t.h, t.l, t.pc)) = some (0x12#8, 0x34#8, 0x0103#16) := by
  decide

/-! One step each. The instruction, its bytes, the start and the end are the row of the spec's table. -/

/-- S2 of spec/95_test_vectors.md. -/
theorem test_S2_CP_n :
    after [0xFE, 0x05] { State.reset with a := 0x05#8 } (fun t => (t.a, t.f, t.pc, t.report)) =
      some (0x05#8, 0xC0#8, 0x0102#16, Report.cycles 8) := by decide

/-- S3 of spec/95_test_vectors.md. -/
theorem test_S3_LDH_A_n :
    after [0xF0, 0x00] (poke [(0xFF00#16, 0x42#8)] State.reset) (fun t => (t.a, t.pc, t.report)) =
      some (0x42#8, 0x0102#16, Report.cycles 12) := by decide

/-- spec/95_test_vectors.md T2: LD H,(HL). -/
theorem test_T2_LD_H_HL :
    after [0x66] (poke [(0xC010#16, 0x9A#8)] { State.reset with h := 0xC0#8, l := 0x10#8 })
      (fun t => (t.f, t.h, t.pc, t.report)) =
      some (0xB0#8, 0x9A#8, 0x0101#16, Report.cycles 8) := by decide

/-- spec/95_test_vectors.md T3: LD (HL),L. -/
theorem test_T3_LD_HL_L :
    after [0x75] { State.reset with h := 0xC0#8, l := 0x10#8 }
      (fun t => (t.f, t.pc, t.mem.read 0xC010#16, t.report)) =
      some (0xB0#8, 0x0101#16, 0x10#8, Report.cycles 8) := by decide

/-- spec/95_test_vectors.md T8: LD A,(HL+), HL wraps. -/
theorem test_T8_LD_A_HL_HL_wraps :
    after [0x2A] (poke [(0xFFFF#16, 0x5A#8)] { State.reset with h := 0xFF#8, l := 0xFF#8 })
      (fun t => (t.a, t.f, t.h, t.l, t.pc, t.report)) =
      some (0x5A#8, 0xB0#8, 0x00#8, 0x00#8, 0x0101#16, Report.cycles 8) := by decide

/-- spec/95_test_vectors.md T9: LD (HL-),A, HL wraps. -/
theorem test_T9_LD_HL_A_HL_wraps :
    after [0x32] { State.reset with a := 0x99#8, h := 0x00#8, l := 0x00#8 }
      (fun t => (t.f, t.h, t.l, t.pc, t.mem.read 0x0000#16, t.report)) =
      some (0xB0#8, 0xFF#8, 0xFF#8, 0x0101#16, 0x99#8, Report.cycles 8) := by decide

/-- spec/95_test_vectors.md T10: LDH (n),A. -/
theorem test_T10_LDH_n_A :
    after [0xE0, 0x80] { State.reset with a := 0x3C#8 }
      (fun t => (t.f, t.pc, t.mem.read 0xFF80#16, t.report)) =
      some (0xB0#8, 0x0102#16, 0x3C#8, Report.cycles 12) := by decide

/-- spec/95_test_vectors.md T11: LD (C),A, C=FF. -/
theorem test_T11_LD_C_A_C_FF :
    after [0xE2] { State.reset with a := 0x11#8, c := 0xFF#8 }
      (fun t => (t.f, t.pc, t.mem.read 0xFFFF#16, t.report)) =
      some (0xB0#8, 0x0101#16, 0x11#8, Report.cycles 8) := by decide

/-- spec/95_test_vectors.md T12: LD A,(C). -/
theorem test_T12_LD_A_C :
    after [0xF2] (poke [(0xFF44#16, 0x90#8)] { State.reset with c := 0x44#8 })
      (fun t => (t.a, t.f, t.pc, t.report)) =
      some (0x90#8, 0xB0#8, 0x0101#16, Report.cycles 8) := by decide

/-- spec/95_test_vectors.md T13: LD A,(nn). -/
theorem test_T13_LD_A_nn :
    after [0xFA, 0x34, 0x12] (poke [(0x1234#16, 0xEE#8)] State.reset)
      (fun t => (t.a, t.f, t.pc, t.report)) =
      some (0xEE#8, 0xB0#8, 0x0103#16, Report.cycles 16) := by decide

/-- spec/95_test_vectors.md T17: LD (nn),SP, nn=FFFF wraps. -/
theorem test_T17_LD_nn_SP_nn_FFFF_wraps :
    after [0x08, 0xFF, 0xFF] { State.reset with sp := 0xBEEF#16 }
      (fun t => (t.f, t.pc, t.mem.read 0x0000#16, t.mem.read 0xFFFF#16, t.report)) =
      some (0xB0#8, 0x0103#16, 0xBE#8, 0xEF#8, Report.cycles 20) := by decide

/-- spec/95_test_vectors.md T19: LD HL,SP+e, both carries. -/
theorem test_T19_LD_HL_SP_e_both_carries :
    after [0xF8, 0x08] { State.reset with f := 0xF0#8, sp := 0xFFF8#16 }
      (fun t => (t.f, t.h, t.l, t.pc, t.report)) =
      some (0x30#8, 0x00#8, 0x00#8, 0x0102#16, Report.cycles 12) := by decide

/-- spec/95_test_vectors.md T22: LD HL,SP+e, e=-1 from 1. -/
theorem test_T22_LD_HL_SP_e_e_1_from_1 :
    after [0xF8, 0xFF] { State.reset with sp := 0x0001#16 }
      (fun t => (t.f, t.h, t.l, t.pc, t.report)) =
      some (0x30#8, 0x00#8, 0x00#8, 0x0102#16, Report.cycles 12) := by decide

/-- spec/95_test_vectors.md T24: PUSH BC, SP wraps. -/
theorem test_T24_PUSH_BC_SP_wraps :
    after [0xC5] { State.reset with b := 0xAA#8, c := 0x55#8, sp := 0x0001#16 }
      (fun t => (t.f, t.sp, t.pc, t.mem.read 0x0000#16, t.mem.read 0xFFFF#16, t.report)) =
      some (0xB0#8, 0xFFFF#16, 0x0101#16, 0xAA#8, 0x55#8, Report.cycles 16) := by decide

/-- spec/95_test_vectors.md T26: POP AF, low nibble dropped. -/
theorem test_T26_POP_AF_low_nibble_dropped :
    after [0xF1] (poke [(0xC000#16, 0xFF#8), (0xC001#16, 0x12#8)] { State.reset with sp := 0xC000#16 })
      (fun t => (t.a, t.f, t.sp, t.pc, t.report)) =
      some (0x12#8, 0xF0#8, 0xC002#16, 0x0101#16, Report.cycles 12) := by decide

/-- spec/95_test_vectors.md T27: POP HL, SP wraps. -/
theorem test_T27_POP_HL_SP_wraps :
    after [0xE1] (poke [(0x0000#16, 0x12#8), (0xFFFF#16, 0x34#8)] { State.reset with sp := 0xFFFF#16 })
      (fun t => (t.f, t.h, t.l, t.sp, t.pc, t.report)) =
      some (0xB0#8, 0x12#8, 0x34#8, 0x0001#16, 0x0101#16, Report.cycles 12) := by decide

/-- spec/95_test_vectors.md T29: ADD A,B 3A+C6. -/
theorem test_T29_ADD_A_B_3A_C6 :
    after [0x80] { State.reset with a := 0x3A#8, f := 0x00#8, b := 0xC6#8 }
      (fun t => (t.a, t.f, t.pc, t.report)) =
      some (0x00#8, 0xB0#8, 0x0101#16, Report.cycles 4) := by decide

/-- spec/95_test_vectors.md T32: ADC A,n FF+00+1. -/
theorem test_T32_ADC_A_n_FF_00_1 :
    after [0xCE, 0x00] { State.reset with a := 0xFF#8, f := 0x10#8 }
      (fun t => (t.a, t.f, t.pc, t.report)) =
      some (0x00#8, 0xB0#8, 0x0102#16, Report.cycles 8) := by decide

/-- spec/95_test_vectors.md T36: SUB n 3E-0F. -/
theorem test_T36_SUB_n_3E_0F :
    after [0xD6, 0x0F] { State.reset with a := 0x3E#8, f := 0x00#8 }
      (fun t => (t.a, t.f, t.pc, t.report)) =
      some (0x2F#8, 0x60#8, 0x0102#16, Report.cycles 8) := by decide

/-- spec/95_test_vectors.md T37: SUB (HL) 3E-40. -/
theorem test_T37_SUB_HL_3E_40 :
    after [0x96] (poke [(0xC000#16, 0x40#8)] { State.reset with a := 0x3E#8, f := 0x00#8, h := 0xC0#8, l := 0x00#8 })
      (fun t => (t.a, t.f, t.pc, t.report)) =
      some (0xFE#8, 0x50#8, 0x0101#16, Report.cycles 8) := by decide

/-- spec/95_test_vectors.md T40: SBC A,n 10-0F-1. -/
theorem test_T40_SBC_A_n_10_0F_1 :
    after [0xDE, 0x0F] { State.reset with a := 0x10#8, f := 0x10#8 }
      (fun t => (t.a, t.f, t.pc, t.report)) =
      some (0x00#8, 0xE0#8, 0x0102#16, Report.cycles 8) := by decide

/-- spec/95_test_vectors.md T41: SBC A,A with carry. -/
theorem test_T41_SBC_A_A_with_carry :
    after [0x9F] { State.reset with a := 0x77#8, f := 0x10#8 }
      (fun t => (t.a, t.f, t.pc, t.report)) =
      some (0xFF#8, 0x70#8, 0x0101#16, Report.cycles 4) := by decide

/-- spec/95_test_vectors.md T43: AND n 5A&00. -/
theorem test_T43_AND_n_5A_00 :
    after [0xE6, 0x00] { State.reset with a := 0x5A#8, f := 0x50#8 }
      (fun t => (t.a, t.f, t.pc, t.report)) =
      some (0x00#8, 0xA0#8, 0x0102#16, Report.cycles 8) := by decide

/-- spec/95_test_vectors.md T44: XOR A. -/
theorem test_T44_XOR_A :
    after [0xAF] { State.reset with a := 0x5A#8, f := 0xF0#8 }
      (fun t => (t.a, t.f, t.pc, t.report)) =
      some (0x00#8, 0x80#8, 0x0101#16, Report.cycles 4) := by decide

/-- spec/95_test_vectors.md T47: ORN. -/
theorem test_T47_ORN :
    after [0xF6, 0x0F] { State.reset with a := 0x5A#8, f := 0xF0#8 }
      (fun t => (t.a, t.f, t.pc, t.report)) =
      some (0x5F#8, 0x00#8, 0x0102#16, Report.cycles 8) := by decide

/-- spec/95_test_vectors.md T48: CP B 3C-2F. -/
theorem test_T48_CP_B_3C_2F :
    after [0xB8] { State.reset with a := 0x3C#8, f := 0x00#8, b := 0x2F#8 }
      (fun t => (t.f, t.pc, t.report)) =
      some (0x60#8, 0x0101#16, Report.cycles 4) := by decide

/-- spec/95_test_vectors.md T50: INC B FF, carry kept. -/
theorem test_T50_INC_B_FF_carry_kept :
    after [0x04] { State.reset with f := 0x10#8, b := 0xFF#8 }
      (fun t => (t.f, t.b, t.pc, t.report)) =
      some (0xB0#8, 0x00#8, 0x0101#16, Report.cycles 4) := by decide

/-- spec/95_test_vectors.md T52: INC (HL) 50. -/
theorem test_T52_INC_HL_50 :
    after [0x34] (poke [(0xC000#16, 0x50#8)] { State.reset with f := 0x00#8, h := 0xC0#8, l := 0x00#8 })
      (fun t => (t.f, t.pc, t.mem.read 0xC000#16, t.report)) =
      some (0x00#8, 0x0101#16, 0x51#8, Report.cycles 12) := by decide

/-- spec/95_test_vectors.md T55: DEC (HL) 10. -/
theorem test_T55_DEC_HL_10 :
    after [0x35] (poke [(0xC000#16, 0x10#8)] { State.reset with f := 0x00#8, h := 0xC0#8, l := 0x00#8 })
      (fun t => (t.f, t.pc, t.mem.read 0xC000#16, t.report)) =
      some (0x60#8, 0x0101#16, 0x0F#8, Report.cycles 12) := by decide

/-- spec/95_test_vectors.md T57: ADD HL,HL 8A23, Z and N kept. -/
theorem test_T57_ADD_HL_HL_8A23_Z_and_N_kept :
    after [0x29] { State.reset with f := 0xC0#8, h := 0x8A#8, l := 0x23#8 }
      (fun t => (t.f, t.h, t.l, t.pc, t.report)) =
      some (0xF0#8, 0x14#8, 0x46#8, 0x0101#16, Report.cycles 8) := by decide

/-- spec/95_test_vectors.md T59: ADD HL,SP FFFF+0001, Z kept though HL=0. -/
theorem test_T59_ADD_HL_SP_FFFF_0001_Z_kept_though_HL_0 :
    after [0x39] { State.reset with f := 0x80#8, h := 0xFF#8, l := 0xFF#8, sp := 0x0001#16 }
      (fun t => (t.f, t.h, t.l, t.pc, t.report)) =
      some (0xB0#8, 0x00#8, 0x00#8, 0x0101#16, Report.cycles 8) := by decide

/-- spec/95_test_vectors.md T60: ADD HL,DE, N cleared under parameter. -/
theorem test_T60_ADD_HL_DE_N_cleared_under_parameter :
    after [0x19] { State.reset with f := 0xC0#8, e := 0x01#8, h := 0x0F#8, l := 0xFF#8, params := { Params.default with addHlClearsN := true } }
      (fun t => (t.f, t.h, t.l, t.pc, t.report)) =
      some (0xA0#8, 0x10#8, 0x00#8, 0x0101#16, Report.cycles 8) := by decide

/-- spec/95_test_vectors.md T63: DEC DE 0000. -/
theorem test_T63_DEC_DE_0000 :
    after [0x1B] { State.reset with f := 0xF0#8, e := 0x00#8 }
      (fun t => (t.f, t.d, t.e, t.pc, t.report)) =
      some (0xF0#8, 0xFF#8, 0xFF#8, 0x0101#16, Report.cycles 8) := by decide

/-- spec/95_test_vectors.md T66: ADD SP,e 0000-1. -/
theorem test_T66_ADD_SP_e_0000_1 :
    after [0xE8, 0xFF] { State.reset with f := 0x00#8, sp := 0x0000#16 }
      (fun t => (t.f, t.sp, t.pc, t.report)) =
      some (0x00#8, 0xFFFF#16, 0x0102#16, Report.cycles 16) := by decide

/-- spec/95_test_vectors.md T67: ADD SP,e 00FF+01. -/
theorem test_T67_ADD_SP_e_00FF_01 :
    after [0xE8, 0x01] { State.reset with f := 0x00#8, sp := 0x00FF#16 }
      (fun t => (t.f, t.sp, t.pc, t.report)) =
      some (0x30#8, 0x0100#16, 0x0102#16, Report.cycles 16) := by decide

/-- spec/95_test_vectors.md T70: RLCA 00, Z stays 0. -/
theorem test_T70_RLCA_00_Z_stays_0 :
    after [0x07] { State.reset with a := 0x00#8, f := 0xF0#8 }
      (fun t => (t.f, t.pc, t.report)) =
      some (0x00#8, 0x0101#16, Report.cycles 4) := by decide

/-- spec/95_test_vectors.md T72: RLA 80 c=0, result 0 but Z=0. -/
theorem test_T72_RLA_80_c_0_result_0_but_Z_0 :
    after [0x17] { State.reset with a := 0x80#8, f := 0x00#8 }
      (fun t => (t.a, t.f, t.pc, t.report)) =
      some (0x00#8, 0x10#8, 0x0101#16, Report.cycles 4) := by decide

/-- spec/95_test_vectors.md T73: RRCA 3B. -/
theorem test_T73_RRCA_3B :
    after [0x0F] { State.reset with a := 0x3B#8, f := 0x00#8 }
      (fun t => (t.a, t.f, t.pc, t.report)) =
      some (0x9D#8, 0x10#8, 0x0101#16, Report.cycles 4) := by decide

/-- spec/95_test_vectors.md T75: RRA 01 c=0. -/
theorem test_T75_RRA_01_c_0 :
    after [0x1F] { State.reset with f := 0x80#8 }
      (fun t => (t.a, t.f, t.pc, t.report)) =
      some (0x00#8, 0x10#8, 0x0101#16, Report.cycles 4) := by decide

/-- spec/95_test_vectors.md T76: RLC B 85. -/
theorem test_T76_RLC_B_85 :
    after [0xCB, 0x00] { State.reset with f := 0x00#8, b := 0x85#8 }
      (fun t => (t.f, t.b, t.pc, t.report)) =
      some (0x10#8, 0x0B#8, 0x0102#16, Report.cycles 8) := by decide

/-- spec/95_test_vectors.md T77: RLC (HL) 00. -/
theorem test_T77_RLC_HL_00 :
    after [0xCB, 0x06] (poke [(0xC000#16, 0x00#8)] { State.reset with f := 0x10#8, h := 0xC0#8, l := 0x00#8 })
      (fun t => (t.f, t.pc, t.report)) =
      some (0x80#8, 0x0102#16, Report.cycles 16) := by decide

/-- spec/95_test_vectors.md T79: RL L 80 c=0. -/
theorem test_T79_RL_L_80_c_0 :
    after [0xCB, 0x15] { State.reset with f := 0x00#8, l := 0x80#8 }
      (fun t => (t.f, t.l, t.pc, t.report)) =
      some (0x90#8, 0x00#8, 0x0102#16, Report.cycles 8) := by decide

/-- spec/95_test_vectors.md T80: RL (HL) 11 c=1. -/
theorem test_T80_RL_HL_11_c_1 :
    after [0xCB, 0x16] (poke [(0xC000#16, 0x11#8)] { State.reset with f := 0x10#8, h := 0xC0#8, l := 0x00#8 })
      (fun t => (t.f, t.pc, t.mem.read 0xC000#16, t.report)) =
      some (0x00#8, 0x0102#16, 0x23#8, Report.cycles 16) := by decide

/-- spec/95_test_vectors.md T82: RR (HL) 8A c=1. -/
theorem test_T82_RR_HL_8A_c_1 :
    after [0xCB, 0x1E] (poke [(0xC000#16, 0x8A#8)] { State.reset with f := 0x10#8, h := 0xC0#8, l := 0x00#8 })
      (fun t => (t.f, t.pc, t.mem.read 0xC000#16, t.report)) =
      some (0x00#8, 0x0102#16, 0xC5#8, Report.cycles 16) := by decide

/-- spec/95_test_vectors.md T85: SRA A 8A, sign kept. -/
theorem test_T85_SRA_A_8A_sign_kept :
    after [0xCB, 0x2F] { State.reset with a := 0x8A#8, f := 0x00#8 }
      (fun t => (t.a, t.f, t.pc, t.report)) =
      some (0xC5#8, 0x00#8, 0x0102#16, Report.cycles 8) := by decide

/-- spec/95_test_vectors.md T86: SRA (HL) 01. -/
theorem test_T86_SRA_HL_01 :
    after [0xCB, 0x2E] (poke [(0xC000#16, 0x01#8)] { State.reset with f := 0x00#8, h := 0xC0#8, l := 0x00#8 })
      (fun t => (t.f, t.pc, t.mem.read 0xC000#16, t.report)) =
      some (0x90#8, 0x0102#16, 0x00#8, Report.cycles 16) := by decide

/-- spec/95_test_vectors.md T89: SWAP A F1, carry cleared. -/
theorem test_T89_SWAP_A_F1_carry_cleared :
    after [0xCB, 0x37] { State.reset with a := 0xF1#8, f := 0xF0#8 }
      (fun t => (t.a, t.f, t.pc, t.report)) =
      some (0x1F#8, 0x00#8, 0x0102#16, Report.cycles 8) := by decide

/-- spec/95_test_vectors.md T90: SWAP (HL) 00. -/
theorem test_T90_SWAP_HL_00 :
    after [0xCB, 0x36] (poke [(0xC000#16, 0x00#8)] { State.reset with f := 0x10#8, h := 0xC0#8, l := 0x00#8 })
      (fun t => (t.f, t.pc, t.report)) =
      some (0x80#8, 0x0102#16, Report.cycles 16) := by decide

/-- spec/95_test_vectors.md T91: BIT 7,H bit set, carry kept. -/
theorem test_T91_BIT_7_H_bit_set_carry_kept :
    after [0xCB, 0x7C] { State.reset with f := 0x10#8, h := 0x80#8 }
      (fun t => (t.f, t.pc, t.report)) =
      some (0x30#8, 0x0102#16, Report.cycles 8) := by decide

/-- spec/95_test_vectors.md T93: BIT 0,(HL) FE, no write. -/
theorem test_T93_BIT_0_HL_FE_no_write :
    after [0xCB, 0x46] (poke [(0xC000#16, 0xFE#8)] { State.reset with f := 0x00#8, h := 0xC0#8, l := 0x00#8 })
      (fun t => (t.f, t.pc, t.report)) =
      some (0xA0#8, 0x0102#16, Report.cycles 12) := by decide

/-- spec/95_test_vectors.md T94: RES 0,(HL) FF. -/
theorem test_T94_RES_0_HL_FF :
    after [0xCB, 0x86] (poke [(0xC000#16, 0xFF#8)] { State.reset with f := 0xF0#8, h := 0xC0#8, l := 0x00#8 })
      (fun t => (t.f, t.pc, t.mem.read 0xC000#16, t.report)) =
      some (0xF0#8, 0x0102#16, 0xFE#8, Report.cycles 16) := by decide

/-- spec/95_test_vectors.md T95: RES 7,A 80, Z not set. -/
theorem test_T95_RES_7_A_80_Z_not_set :
    after [0xCB, 0xBF] { State.reset with a := 0x80#8, f := 0x00#8 }
      (fun t => (t.a, t.f, t.pc, t.report)) =
      some (0x00#8, 0x00#8, 0x0102#16, Report.cycles 8) := by decide

/-- spec/95_test_vectors.md T97: SET 2,E (second byte D3 is not invalid). -/
theorem test_T97_SET_2_E_second_byte_D3_is_not_invalid :
    after [0xCB, 0xD3] { State.reset with f := 0xA0#8, e := 0x00#8 }
      (fun t => (t.f, t.e, t.pc, t.report)) =
      some (0xA0#8, 0x04#8, 0x0102#16, Report.cycles 8) := by decide

/-- spec/95_test_vectors.md T99: JP Z,nn taken. -/
theorem test_T99_JP_Z_nn_taken :
    after [0xCA, 0x00, 0x80] { State.reset with f := 0x80#8 }
      (fun t => (t.f, t.pc, t.report)) =
      some (0x80#8, 0x8000#16, Report.cycles 16) := by decide

/-- spec/95_test_vectors.md T100: JP C,nn not taken. -/
theorem test_T100_JP_C_nn_not_taken :
    after [0xDA, 0x00, 0x80] { State.reset with f := 0x80#8 }
      (fun t => (t.f, t.pc, t.report)) =
      some (0x80#8, 0x0103#16, Report.cycles 12) := by decide

/-- spec/95_test_vectors.md T101: JP HL. -/
theorem test_T101_JP_HL :
    after [0xE9] { State.reset with h := 0x12#8, l := 0x34#8 }
      (fun t => (t.f, t.pc, t.report)) =
      some (0xB0#8, 0x1234#16, Report.cycles 4) := by decide

/-- spec/95_test_vectors.md T104: JR -128. -/
theorem test_T104_JR_128 :
    after [0x18, 0x80] State.reset
      (fun t => (t.f, t.pc, t.report)) =
      some (0xB0#8, 0x0082#16, Report.cycles 12) := by decide

/-- spec/95_test_vectors.md T105: JR +4 at FFFE, PC wraps. -/
theorem test_T105_JR_4_at_FFFE_PC_wraps :
    after [0x18, 0x04] { State.reset with pc := 0xFFFE#16 }
      (fun t => (t.f, t.pc, t.report)) =
      some (0xB0#8, 0x0004#16, Report.cycles 12) := by decide

/-- spec/95_test_vectors.md T107: JR C,e taken. -/
theorem test_T107_JR_C_e_taken :
    after [0x38, 0x10] { State.reset with f := 0x10#8 }
      (fun t => (t.f, t.pc, t.report)) =
      some (0x10#8, 0x0112#16, Report.cycles 12) := by decide

/-- spec/95_test_vectors.md T108: JR NC,e not taken. -/
theorem test_T108_JR_NC_e_not_taken :
    after [0x30, 0x10] { State.reset with f := 0x10#8 }
      (fun t => (t.f, t.pc, t.report)) =
      some (0x10#8, 0x0102#16, Report.cycles 8) := by decide

/-- spec/95_test_vectors.md T109: CALL nn. -/
theorem test_T109_CALL_nn :
    after [0xCD, 0x00, 0x20] State.reset
      (fun t => (t.f, t.sp, t.pc, t.mem.read 0xFFFC#16, t.mem.read 0xFFFD#16, t.report)) =
      some (0xB0#8, 0xFFFC#16, 0x2000#16, 0x03#8, 0x01#8, Report.cycles 24) := by decide

/-- spec/95_test_vectors.md T111: CALL NZ,nn not taken. -/
theorem test_T111_CALL_NZ_nn_not_taken :
    after [0xC4, 0x00, 0x20] { State.reset with f := 0x80#8 }
      (fun t => (t.f, t.pc, t.report)) =
      some (0x80#8, 0x0103#16, Report.cycles 12) := by decide

/-- spec/95_test_vectors.md T112: CALL nn, SP=0000 wraps. -/
theorem test_T112_CALL_nn_SP_0000_wraps :
    after [0xCD, 0x00, 0x20] { State.reset with sp := 0x0000#16 }
      (fun t => (t.f, t.sp, t.pc, t.mem.read 0xFFFE#16, t.mem.read 0xFFFF#16, t.report)) =
      some (0xB0#8, 0xFFFE#16, 0x2000#16, 0x03#8, 0x01#8, Report.cycles 24) := by decide

/-- spec/95_test_vectors.md T114: RET NC taken. -/
theorem test_T114_RET_NC_taken :
    after [0xD0] (poke [(0xFFFC#16, 0x03#8), (0xFFFD#16, 0x01#8)] { State.reset with f := 0x00#8, sp := 0xFFFC#16 })
      (fun t => (t.f, t.sp, t.pc, t.report)) =
      some (0x00#8, 0xFFFE#16, 0x0103#16, Report.cycles 20) := by decide

/-- spec/95_test_vectors.md T115: RET Z not taken. -/
theorem test_T115_RET_Z_not_taken :
    after [0xC8] (poke [(0xFFFC#16, 0x03#8), (0xFFFD#16, 0x01#8)] { State.reset with f := 0x00#8, sp := 0xFFFC#16 })
      (fun t => (t.f, t.pc, t.report)) =
      some (0x00#8, 0x0101#16, Report.cycles 8) := by decide

/-- spec/95_test_vectors.md T116: RETI. -/
theorem test_T116_RETI :
    after [0xD9] (poke [(0xFFFC#16, 0x03#8), (0xFFFD#16, 0x01#8)] { State.reset with sp := 0xFFFC#16 })
      (fun t => (t.f, t.sp, t.pc, t.ime, t.report)) =
      some (0xB0#8, 0xFFFE#16, 0x0103#16, true, Report.cycles 16) := by decide

/-- spec/95_test_vectors.md T117: RST 38. -/
theorem test_T117_RST_38 :
    after [0xFF] State.reset
      (fun t => (t.f, t.sp, t.pc, t.mem.read 0xFFFC#16, t.mem.read 0xFFFD#16, t.report)) =
      some (0xB0#8, 0xFFFC#16, 0x0038#16, 0x01#8, 0x01#8, Report.cycles 16) := by decide

/-- spec/95_test_vectors.md T118: RST 00 at 1234. -/
theorem test_T118_RST_00_at_1234 :
    after [0xC7] { State.reset with pc := 0x1234#16 }
      (fun t => (t.f, t.sp, t.pc, t.mem.read 0xFFFC#16, t.mem.read 0xFFFD#16, t.report)) =
      some (0xB0#8, 0xFFFC#16, 0x0000#16, 0x35#8, 0x12#8, Report.cycles 16) := by decide

/-- spec/95_test_vectors.md T119: HALT. -/
theorem test_T119_HALT :
    after [0x76] { State.reset with pc := 0x0200#16 }
      (fun t => (t.f, t.pc, t.mode, t.report)) =
      some (0xB0#8, 0x0201#16, Mode.halted, Report.cycles 4) := by decide

/-- spec/95_test_vectors.md T122: STOP. -/
theorem test_T122_STOP :
    after [0x10, 0x00] { State.reset with pc := 0x0300#16 }
      (fun t => (t.f, t.pc, t.mode, t.report)) =
      some (0xB0#8, 0x0302#16, Mode.stopped, Report.cycles 4) := by decide

/-- spec/95_test_vectors.md T123: STOP, length 1. -/
theorem test_T123_STOP_length_1 :
    after [0x10, 0x00] { State.reset with pc := 0x0300#16, params := { Params.default with stopLength := .one } }
      (fun t => (t.f, t.pc, t.mode, t.report)) =
      some (0xB0#8, 0x0301#16, Mode.stopped, Report.cycles 4) := by decide

/-- spec/95_test_vectors.md T125: EI alone. -/
theorem test_T125_EI_alone :
    after [0xFB, 0x00] State.reset
      (fun t => (t.f, t.pc, t.imePending, t.report)) =
      some (0xB0#8, 0x0101#16, true, Report.cycles 4) := by decide

/-- spec/95_test_vectors.md T130: DI with IME=1. -/
theorem test_T130_DI_with_IME_1 :
    after [0xF3] { State.reset with ime := true }
      (fun t => (t.f, t.pc, t.ime, t.report)) =
      some (0xB0#8, 0x0101#16, false, Report.cycles 4) := by decide

/-- spec/95_test_vectors.md T132: DAA 4B after 83-38. -/
theorem test_T132_DAA_4B_after_83_38 :
    after [0x27] { State.reset with a := 0x4B#8, f := 0x60#8 }
      (fun t => (t.a, t.f, t.pc, t.report)) =
      some (0x45#8, 0x40#8, 0x0101#16, Report.cycles 4) := by decide

/-- spec/95_test_vectors.md T137: DAA 00 with N,H,C. -/
theorem test_T137_DAA_00_with_N_H_C :
    after [0x27] { State.reset with a := 0x00#8, f := 0x70#8 }
      (fun t => (t.a, t.f, t.pc, t.report)) =
      some (0x9A#8, 0x50#8, 0x0101#16, Report.cycles 4) := by decide

/-- spec/95_test_vectors.md T139: DAA FF with N,C. -/
theorem test_T139_DAA_FF_with_N_C :
    after [0x27] { State.reset with a := 0xFF#8, f := 0x50#8 }
      (fun t => (t.a, t.f, t.pc, t.report)) =
      some (0x9F#8, 0x50#8, 0x0101#16, Report.cycles 4) := by decide

/-- spec/95_test_vectors.md T141: CPL FF, result 0 but Z not set. -/
theorem test_T141_CPL_FF_result_0_but_Z_not_set :
    after [0x2F] { State.reset with a := 0xFF#8, f := 0x00#8 }
      (fun t => (t.a, t.f, t.pc, t.report)) =
      some (0x00#8, 0x60#8, 0x0101#16, Report.cycles 4) := by decide

/-- spec/95_test_vectors.md T142: SCF. -/
theorem test_T142_SCF :
    after [0x37] { State.reset with f := 0xE0#8 }
      (fun t => (t.f, t.pc, t.report)) =
      some (0x90#8, 0x0101#16, Report.cycles 4) := by decide

/-- spec/95_test_vectors.md T143: CCF, carry 1. -/
theorem test_T143_CCF_carry_1 :
    after [0x3F] { State.reset with f := 0xF0#8 }
      (fun t => (t.f, t.pc, t.report)) =
      some (0x80#8, 0x0101#16, Report.cycles 4) := by decide

/-- spec/95_test_vectors.md T144: CCF, carry 0. -/
theorem test_T144_CCF_carry_0 :
    after [0x3F] { State.reset with f := 0x00#8 }
      (fun t => (t.f, t.pc, t.report)) =
      some (0x10#8, 0x0101#16, Report.cycles 4) := by decide

/-- spec/95_test_vectors.md T145: INVALID D3. -/
theorem test_T145_INVALID_D3 :
    after [0xD3] State.reset
      (fun t => (t.f, t.pc, t.report, t.fault)) =
      some (0xB0#8, 0x0101#16, Report.fault ⟨0xD3#8, 0x0100#16⟩, some (IllegalOpcode.mk 0xD3#8 0x0100#16)) := by decide

/-- spec/95_test_vectors.md T155: INVALID FD. -/
theorem test_T155_INVALID_FD :
    after [0xFD] State.reset
      (fun t => (t.f, t.pc, t.report, t.fault)) =
      some (0xB0#8, 0x0101#16, Report.fault ⟨0xFD#8, 0x0100#16⟩, some (IllegalOpcode.mk 0xFD#8 0x0100#16)) := by decide

/-! The step around an instruction. -/

/-- R341: an idle step. -/
theorem test_idle :
    after [0x3C] { State.reset with mode := .halted } (fun t => (t.a, t.pc, t.mode, t.report)) =
      some (0x01#8, 0x0100#16, Mode.halted, Report.cycles 4) := by decide

/-- R343, T121: `irq` wakes the core, which runs the next instruction in the same step. -/
theorem test_wake :
    after [0x3C] { State.reset with mode := .halted, inputs := [{ Stimulus.quiet with irq := true }] }
      (fun t => (t.a, t.pc, t.mode)) = some (0x02#8, 0x0101#16, Mode.running) := by decide

/-- R346, T126: a pending EI takes effect after the next instruction. -/
theorem test_pending_ei :
    after [0x00] { State.reset with imePending := true } (fun t => (t.ime, t.imePending)) = some (true, false) := by
  decide

/-- R346, T127: DI cancels a pending EI. -/
theorem test_pending_ei_cancelled :
    after [0xF3] { State.reset with imePending := true } (fun t => (t.ime, t.imePending)) = some (false, false) := by
  decide

/-- R351, T156: a latched fault is reported again. -/
theorem test_latched :
    after [0x3C] { State.reset with fault := some ⟨0xDD#8, 0x0100#16⟩ } (fun t => (t.a, t.pc, t.report)) =
      some (0x01#8, 0x0100#16, Report.fault ⟨0xDD#8, 0x0100#16⟩) := by decide

/-- R381: Reset clears a latched fault, and the step then runs from 0x0100. -/
theorem test_reset_clears_fault :
    stepped { State.reset with
        pc := 0x0200#16, fault := some ⟨0xDD#8, 0x0100#16⟩, inputs := [{ Stimulus.quiet with reset := true }] }
      (fun t => (t.pc, t.fault, t.report)) = some (0x0101#16, none, Report.cycles 4) := by decide

/-- R362: dispatch pushes PC, clears IME and goes to the vector. -/
theorem test_dispatch :
    stepped { State.reset with
        ime := true, params := { Params.default with irqDispatch := true }
        inputs := [{ Stimulus.quiet with irq := true, irqVector := 0x0048#16 }] }
      (fun t => (t.pc, t.sp, t.ime, t.irqAck, t.mem.read 0xFFFD#16 ++ t.mem.read 0xFFFC#16, t.report)) =
      some (0x0048#16, 0xFFFC#16, false, true, 0x0100#16, Report.cycles 20) := by decide

/-- R76: the core sees a byte that a peripheral wrote before the step. -/
theorem test_external_write :
    stepped { State.reset with inputs := [{ Stimulus.quiet with writes := [(0x0100#16, 0x3C#8)] }] }
      (fun t => (t.a, t.pc)) = some (0x02#8, 0x0101#16) := by decide

/-- R8: the parameter CYCLES gives the counts that are reported, here 7, 9 and 5 for every opcode. -/
def otherCycles : State :=
  { State.reset with params := { Params.default with
      cycles := { base := Vector.replicate 256 7, taken := Vector.replicate 256 9, extended := Vector.replicate 256 5 } } }

/-- The base cost of NOP, and of JR NZ that is not taken. -/
theorem test_cycles_base :
    after [0x00] otherCycles (fun t => t.report) = some (Report.cycles 7) ∧
    after [0x20, 0x02] otherCycles (fun t => (t.report, t.pc)) = some (Report.cycles 7, 0x0102#16) := by decide

/-- The taken cost of JR Z, and the cost of an extended instruction. -/
theorem test_cycles_taken_and_extended :
    after [0x28, 0x02] otherCycles (fun t => (t.report, t.pc)) = some (Report.cycles 9, 0x0104#16) ∧
    after [0xCB, 0x37] otherCycles (fun t => t.report) = some (Report.cycles 5) := by decide

/-- R400: rows of the table, one of each kind. -/
theorem test_cycles_default :
    CycleTable.standard.baseOf 0x00#8 = 4 ∧ CycleTable.standard.baseOf 0x08#8 = 20 ∧
    CycleTable.standard.baseOf 0xCD#8 = 24 ∧ CycleTable.standard.baseOf 0xC0#8 = 8 ∧
    CycleTable.standard.takenOf 0xC0#8 = 20 ∧ CycleTable.standard.takenOf 0xDC#8 = 24 ∧
    CycleTable.standard.extendedOf 0x46#8 = 12 ∧ CycleTable.standard.extendedOf 0xFE#8 = 16 := by decide

/-! States and operands that meet the hypotheses of the statements, all of them together. -/

/-- A state under the oracle bus. -/
def oracleState : State := { State.reset with params := { Params.default with bus := .oracle } }

/-- A state that presents `irq`. -/
def irqState (m : Mode) : State := { State.reset with mode := m, inputs := [{ Stimulus.quiet with irq := true }] }

theorem test_witness_DecodeAfterEncode :
    Instr.wellFormed Params.default (.ld_BC_nn 0xFFFF#16) = true ∧ Instr.wellFormed Params.default .set_7_atHL = true := by
  decide

theorem test_witness_EncodeAfterDecode :
    decode Params.default [0xCD#8, 0x34#8, 0x12#8, 0xAA#8] = .ok (.call_nn 0x1234#16) [0xAA#8] := by decide

theorem test_witness_ReportedCycles_base : exec .nop State.reset = .next (State.reset.took 4) := rfl

/-- Zero is set at reset, so JR Z is taken and reports the larger cost. -/
theorem test_witness_ReportedCycles_taken :
    exec (.jr_Z_e 0x00#8) State.reset = .next (State.reset.took 12) := rfl

theorem test_witness_ReportedCycles_fault :
    exec .invalid_D3 State.reset = .next (State.reset.raiseIllegalOpcode 0xD3#8 0x00FF#16) := rfl

/-- The six hypotheses of `StepRunsTheDecodedInstruction`, with a pending EI. -/
theorem test_witness_StepRuns :
    let s := place [0x01, 0x34, 0x12] { State.reset with imePending := true }
    s.outside.fault = none ∧ (s.outside.mode = .running ∨ s.stimulus.irq = true) ∧
    ¬ (s.outside.params.irqDispatch = true ∧ s.stimulus.irq = true ∧ s.outside.ime = true) ∧
    s.outside.params.bus = .plain ∧
    decode s.outside.params
      [s.outside.mem.read s.outside.pc, s.outside.mem.read (s.outside.pc + 1), s.outside.mem.read (s.outside.pc + 2)]
      = .ok (.ld_BC_nn 0x1234#16) [] ∧
    exec (.ld_BC_nn 0x1234#16) { s.outside with mode := .running, pc := s.outside.pc + BitVec.ofNat 16 (3 - 0) } =
      .next (State.took { s.outside with mode := .running, pc := 0x0103#16, b := 0x12#8, c := 0x34#8 } 12) :=
  ⟨by decide, by decide, by decide, by decide, by decide, rfl⟩

/-- The same, woken from Halted, at the top of the address space. -/
theorem test_witness_StepRuns_woken :
    let s := place [0x3E, 0x77] { irqState .halted with pc := 0xFFFF#16 }
    s.outside.fault = none ∧ (s.outside.mode = .running ∨ s.stimulus.irq = true) ∧
    ¬ (s.outside.params.irqDispatch = true ∧ s.stimulus.irq = true ∧ s.outside.ime = true) ∧
    s.outside.params.bus = .plain ∧
    decode s.outside.params
      [s.outside.mem.read s.outside.pc, s.outside.mem.read (s.outside.pc + 1), s.outside.mem.read (s.outside.pc + 2)]
      = .ok (.ld_A_n 0x77#8) [0x00#8] ∧
    exec (.ld_A_n 0x77#8) { s.outside with mode := .running, pc := s.outside.pc + BitVec.ofNat 16 (3 - 1) } =
      .next (State.took { s.outside with mode := .running, pc := 0x0001#16, a := 0x77#8 } 8) :=
  ⟨by decide, by decide, by decide, by decide, by decide, rfl⟩

/-- Both buses, with an instruction that straddles the wrap of PC. -/
theorem test_witness_FetchReads :
    (place [0xC3, 0x00, 0x80] { State.reset with pc := 0xFFFE#16 }).params.bus = .plain ∧
    oracleState.params.bus = .oracle := by decide

theorem test_witness_IdleStep_halted :
    let s := { State.reset with mode := Mode.halted }
    s.outside.fault = none ∧ (s.outside.mode = .halted ∨ s.outside.mode = .stopped) ∧ s.stimulus.irq = false := by decide

theorem test_witness_IdleStep_stopped :
    let s := { State.reset with mode := Mode.stopped }
    s.outside.fault = none ∧ (s.outside.mode = .halted ∨ s.outside.mode = .stopped) ∧ s.stimulus.irq = false := by decide

theorem test_witness_IrqWakes :
    (irqState .halted).stimulus.irq = true ∧ (irqState .halted).outside.fault = none ∧
    (irqState .stopped).stimulus.irq = true ∧ (irqState .stopped).outside.fault = none := by decide

/-- The hypotheses and every clause: with nothing presented, and with ImeSet and a write presented. -/
theorem test_witness_LatchedFault :
    (let s := { State.reset with fault := some ⟨0xDD#8, 0x0100#16⟩ }
     s.fault = some ⟨0xDD#8, 0x0100#16⟩ ∧ s.stimulus.reset = false ∧ s.stimulus.imeSet = none ∧ s.stimulus.writes = []) ∧
    (let s := { State.reset with
       fault := some ⟨0xDD#8, 0x0100#16⟩
       inputs := [{ Stimulus.quiet with imeSet := some true, writes := [(0xFFFF#16, 0x01#8)] }] }
     s.fault = some ⟨0xDD#8, 0x0100#16⟩ ∧ s.stimulus.reset = false ∧ s.outside.ime = true) := by decide

/-- Both clauses: a stimulus with writes, Reset and ImeSet, and no stimulus at all. -/
theorem test_witness_ResetThenImeSet :
    let x := { Stimulus.quiet with writes := [(0xFFFF#16, 0x01#8), (0xFFFF#16, 0x02#8)], reset := true, imeSet := some true }
    ({ State.reset with inputs := [x] } : State).inputs = x :: [] ∧
    ({ State.reset with inputs := [x] } : State).outside.mem.read 0xFFFF#16 = 0x02#8 ∧
    ({ State.reset with inputs := [x] } : State).outside.ime = true ∧ State.reset.inputs = [] := by decide

theorem test_witness_InterruptDispatch :
    let s := { irqState .stopped with ime := true, params := { Params.default with irqDispatch := true } }
    s.outside.fault = none ∧ s.outside.params.irqDispatch = true ∧ s.stimulus.irq = true ∧ s.outside.ime = true := by
  decide

theorem test_witness_IrqIsIgnored :
    let s := irqState .running
    s.inputs = { Stimulus.quiet with irq := true } :: [] ∧ s.outside.mode = .running ∧
      s.outside.params.irqDispatch = false := by decide

/-- The hypotheses of `PendingEiTakesEffectAfterTheNextInstruction` at a state with given bytes at PC. -/
def pendingHypotheses (s : State) : Bool :=
  s.outside.fault.isNone && (s.outside.mode == .running || s.stimulus.irq) &&
    !(s.outside.params.irqDispatch && s.stimulus.irq && s.outside.ime) && (stepped s fun _ => ()).isSome

/-- Each clause: an EI pending before DI, before an instruction that completes, before an Invalid opcode, before EI
itself; and none pending before EI. -/
theorem test_witness_PendingEi :
    (let s := place [0xF3] { State.reset with imePending := true }
     pendingHypotheses s ∧ s.outside.imePending = true ∧ s.outside.wake.fetch.1 = .di) ∧
    (let s := place [0x76] { State.reset with imePending := true }
     pendingHypotheses s ∧ s.outside.imePending = true ∧ s.outside.wake.fetch.1 = .halt) ∧
    (let s := place [0xD3] { State.reset with imePending := true }
     pendingHypotheses s ∧ s.outside.imePending = true ∧ s.outside.wake.fetch.1 = .invalid_D3) ∧
    (let s := place [0xFB] { State.reset with imePending := true }
     pendingHypotheses s ∧ s.outside.imePending = true ∧ s.outside.wake.fetch.1 = .ei) ∧
    (let s := place [0xFB] State.reset
     pendingHypotheses s ∧ s.outside.imePending = false ∧ s.outside.wake.fetch.1 = .ei) := by decide

theorem test_witness_EveryStepKeepsTheInvariant :
    State.reset.Inv ∧ step State.reset = .next (State.took { State.reset with pc := 0x0101#16 } 4) :=
  ⟨by decide, rfl⟩

theorem test_witness_ParametersAreConstant :
    step { State.reset with inputs := [Stimulus.quiet] } =
      .next (State.took { State.reset with pc := 0x0101#16 } 4) := rfl

theorem test_witness_ControlState :
    exec .halt State.reset = .next (State.took { State.reset with mode := .halted } 4) ∧
    exec .di State.reset = .next (State.took State.reset 4) ∧
    exec .ei State.reset = .next (State.took { State.reset with imePending := true } 4) ∧
    exec (.stop (some 0xD3#8)) State.reset = .next (State.took { State.reset with mode := .stopped } 4) :=
  ⟨rfl, rfl, rfl, rfl⟩

/-- Both buses, the plain one with a byte at each end of the address space. -/
theorem test_witness_TheTwoBuses :
    (let s := poke [(0x0000#16, 0x01#8), (0xFFFF#16, 0x02#8)] State.reset
     s.params.bus = .plain ∧ s.mem.wf = true) ∧
    oracleState.params.bus = .oracle := by decide

theorem test_witness_MemoryIsCanonical :
    Memory.wf [(0, 0x01#8), (65535, 0x02#8)] = true ∧
    Memory.wf (Memory.write [(0, 0x01#8), (65535, 0x02#8)] 0xFFFF#16 0x00#8) = true := by decide

/-- Canonical memories that read the same everywhere: one built by writes in two orders. -/
theorem test_witness_MemoryIsCanonical_equal :
    let m := (Memory.write [] 0xFFFF#16 0x02#8).write 0x0000#16 0x01#8
    let n := (Memory.write [] 0x0000#16 0x01#8).write 0xFFFF#16 0x02#8
    m.wf = true ∧ n.wf = true ∧ ∀ addr, m.read addr = n.read addr := ⟨rfl, rfl, fun _ => rfl⟩

/-- Both buses, at the address where the second byte wraps. -/
theorem test_witness_SixteenBit :
    State.reset.params.bus = .plain ∧ State.reset.mem.wf = true ∧ oracleState.params.bus = .oracle ∧
    (State.reset.busRead16 0xFFFF#16).1 = 0x0000#16 := by decide

/-- Both buses, with SP where a push wraps. -/
theorem test_witness_PushAndPop :
    (let s := { State.reset with sp := 0x0001#16 }
     s.params.bus = .plain ∧ s.mem.wf = true ∧ (s.push16 0xAA55#16).mem.read 0xFFFF#16 = 0x55#8) ∧
    oracleState.params.bus = .oracle := by decide

theorem test_witness_PushThenPop :
    let s := { State.reset with sp := 0x0000#16 }
    s.params.bus = .plain ∧ s.mem.wf = true := by decide

theorem test_witness_ReturnAfterCall :
    let s := { State.reset with sp := 0x0001#16, pc := 0xFFFF#16 }
    s.params.bus = .plain ∧ s.mem.wf = true := by decide

/-- The oracle bus, and second bytes of the extended memory forms at both ends of their range. -/
theorem test_witness_ReadModifyWrite :
    oracleState.params.bus = .oracle ∧
    (0x06#8).extractLsb' 0 3 = 6#3 ∧ (0x06#8).extractLsb' 6 2 ≠ 1#2 ∧
    (0xFE#8).extractLsb' 0 3 = 6#3 ∧ (0xFE#8).extractLsb' 6 2 ≠ 1#2 := by decide

theorem test_witness_PairedViews_FlagsOfF : State.reset.flagsClean ∧ { State.reset with f := 0xF0#8 }.flagsClean := by
  decide

theorem test_witness_AccumulatorRotates :
    (0x1F#8, RotOp.rr) ∈ [(0x07#8, RotOp.rlc), (0x17#8, RotOp.rl), (0x0F#8, RotOp.rrc), (0x1F#8, RotOp.rr)] := by decide

/-- Either length of STOP. -/
theorem test_witness_Stop :
    Params.default.stopLength = .two ∧ { Params.default with stopLength := .one }.stopLength = .one := by decide

theorem test_witness_InvalidOpcodes : 0xD3#8 ∈ invalidBytes ∧ 0xFD#8 ∈ invalidBytes := by decide

theorem test_witness_FrameOfRotates : 0x07#8 ∈ [0x07#8, 0x17#8, 0x0F#8, 0x1F#8] := by decide

/-- R331: the step that presents Reset to a faulted state ends in a safe one, and the run of that step is not safe. -/
theorem test_safeRun_reset :
    let s := { State.reset with
      fault := some ⟨0xD3#8, 0x0100#16⟩, inputs := [{ Stimulus.quiet with reset := true }] }
    (stepped s fun t => t.fault) = some none ∧ ¬ s.SafeRun 1 :=
  ⟨by decide, fun h => absurd h.1 (by decide)⟩

/-- R331: the run of the one step that executes 0xD3 is not safe, though it starts so; that of a NOP is. -/
theorem test_safeRun_invalid :
    (place [0xD3] State.reset).Safe ∧ ¬ (place [0xD3] State.reset).SafeRun 1 ∧ (place [0x00] State.reset).SafeRun 1 :=
  ⟨rfl, fun ⟨_, _, h, ht⟩ => by cases h; exact absurd (show State.Safe _ from ht) (by decide), rfl, _, rfl, rfl⟩

end Sys2Proof.Tests
end

section
/-! SUPPORT. The parameters and the coming inputs under the operations and the instructions: nothing that the core does
writes either, and only the outside's transition at the start of a step takes an input away (spec/00_scope.md R8,
spec/70_reset_and_hazards.md R406). -/

namespace Sys2Proof.Machine

/-! The operand forms and the 16-bit bus write. -/

@[simp] theorem State.setPair_params (s : State) (p : Pair) (v : Word) : (s.setPair p v).params = s.params := by
  cases p <;> rfl
@[simp] theorem State.setPair_inputs (s : State) (p : Pair) (v : Word) : (s.setPair p v).inputs = s.inputs := by
  cases p <;> rfl

@[simp] theorem State.setStackPair_params (s : State) (p : StackPair) (v : Word) :
    (s.setStackPair p v).params = s.params := by
  cases p <;> rfl
@[simp] theorem State.setStackPair_inputs (s : State) (p : StackPair) (v : Word) :
    (s.setStackPair p v).inputs = s.inputs := by
  cases p <;> rfl

@[simp] theorem State.readTarget_params (s : State) (t : Target) : (s.readTarget t).2.params = s.params := by
  cases t with
  | reg r => rfl
  | atHL => exact s.busRead_params s.hl
@[simp] theorem State.readTarget_inputs (s : State) (t : Target) : (s.readTarget t).2.inputs = s.inputs := by
  cases t with
  | reg r => rfl
  | atHL => exact s.busRead_inputs s.hl

@[simp] theorem State.writeTarget_params (s : State) (t : Target) (v : Byte) :
    (s.writeTarget t v).params = s.params := by
  cases t with
  | reg r => exact s.setReg_params r v
  | atHL => exact s.busWrite_params s.hl v
@[simp] theorem State.writeTarget_inputs (s : State) (t : Target) (v : Byte) :
    (s.writeTarget t v).inputs = s.inputs := by
  cases t with
  | reg r => exact s.setReg_inputs r v
  | atHL => exact s.busWrite_inputs s.hl v

@[simp] theorem State.readSource_params (s : State) (src : Source) : (s.readSource src).2.params = s.params := by
  cases src with
  | reg r => rfl
  | atHL => exact s.busRead_params s.hl
  | imm n => rfl
@[simp] theorem State.readSource_inputs (s : State) (src : Source) : (s.readSource src).2.inputs = s.inputs := by
  cases src with
  | reg r => rfl
  | atHL => exact s.busRead_inputs s.hl
  | imm n => rfl

@[simp] theorem State.busWrite16_params (s : State) (addr v : Word) : (s.busWrite16 addr v).params = s.params := by
  simp [State.busWrite16]
@[simp] theorem State.busWrite16_inputs (s : State) (addr v : Word) : (s.busWrite16 addr v).inputs = s.inputs := by
  simp [State.busWrite16]

/-! The operations of the extended table (R103, R106). -/

@[simp] theorem rotate_params (op : RotOp) (t : Target) (s : State) : (rotate op t s).params = s.params := by
  simp [rotate]
@[simp] theorem rotate_inputs (op : RotOp) (t : Target) (s : State) : (rotate op t s).inputs = s.inputs := by
  simp [rotate]

@[simp] theorem testBit_params (bit : Nat) (t : Target) (s : State) : (testBit bit t s).params = s.params := by
  simp [testBit]
@[simp] theorem testBit_inputs (bit : Nat) (t : Target) (s : State) : (testBit bit t s).inputs = s.inputs := by
  simp [testBit]

@[simp] theorem resetBit_params (bit : Nat) (t : Target) (s : State) : (resetBit bit t s).params = s.params := by
  simp [resetBit]
@[simp] theorem resetBit_inputs (bit : Nat) (t : Target) (s : State) : (resetBit bit t s).inputs = s.inputs := by
  simp [resetBit]

@[simp] theorem setBit_params (bit : Nat) (t : Target) (s : State) : (setBit bit t s).params = s.params := by
  simp [setBit]
@[simp] theorem setBit_inputs (bit : Nat) (t : Target) (s : State) : (setBit bit t s).inputs = s.inputs := by
  simp [setBit]

@[simp] theorem extendedAction_params (op2 : Byte) (s : State) : (extendedAction op2 s).params = s.params := by
  simp only [extendedAction]
  split <;> simp
@[simp] theorem extendedAction_inputs (op2 : Byte) (s : State) : (extendedAction op2 s).inputs = s.inputs := by
  simp only [extendedAction]
  split <;> simp

/-! RETI, and what a step does around an instruction. -/

@[simp] theorem State.returnFromInterrupt_params (s : State) : s.returnFromInterrupt.params = s.params := by
  simp [State.returnFromInterrupt]
@[simp] theorem State.returnFromInterrupt_inputs (s : State) : s.returnFromInterrupt.inputs = s.inputs := by
  simp [State.returnFromInterrupt]

@[simp] theorem State.dispatchIrq_params (s : State) (v : Word) : (s.dispatchIrq v).params = s.params := by
  simp [State.dispatchIrq]
@[simp] theorem State.dispatchIrq_inputs (s : State) (v : Word) : (s.dispatchIrq v).inputs = s.inputs := by
  simp [State.dispatchIrq]

@[simp] theorem State.idle_params (s : State) : s.idle.params = s.params := rfl
@[simp] theorem State.idle_inputs (s : State) : s.idle.inputs = s.inputs := rfl

@[simp] theorem State.settleIme_params (s : State) (p : Bool) : (s.settleIme p).params = s.params := by
  rcases s.settleIme_cases p with ⟨-, -, -, h⟩ | ⟨-, h⟩ <;> rw [h]
@[simp] theorem State.settleIme_inputs (s : State) (p : Bool) : (s.settleIme p).inputs = s.inputs := by
  rcases s.settleIme_cases p with ⟨-, -, -, h⟩ | ⟨-, h⟩ <;> rw [h]

/-! The instructions. -/

/-- No shared operation writes the parameters (R8) or the coming inputs. -/
theorem run_params_inputs (e : Effect) (s : State) :
    (e.run s).params = s.params ∧ (e.run s).inputs = s.inputs := by
  cases e with
  | loadReg | loadImm | loadFrom | storeTo | loadAndMove | storeAndMove =>
    simp [Effect.run, loadReg, loadImm, loadFrom, storeTo, loadAndMove, storeAndMove]
  | loadPair | storeSP | loadSPFromHL | loadHLFromSPPlus | pushPair | popPair =>
    simp [Effect.run, loadPair, loadHLFromSPPlus, pushPair, popPair]
  | alu op src => by_cases hcp : op = .cp <;> simp [Effect.run, aluA, hcp]
  | increment | decrement | daa | cpl | scf | ccf =>
    simp [Effect.run, increment, decrement, decimalAdjust, complementA]
  | addHL | movePair | addSP => simp [Effect.run, addHL, movePair, addSP]
  | rotateA | rotate | testBit | resetBit | setBit | extended => simp [Effect.run, rotateA]
  | jump | call | ret | reti => simp [Effect.run, callTo, returnTo]
  | jumpIf cc | callIf cc | returnIf cc =>
    cases hcc : s.cond cc <;> simp [Effect.run, hcc, callTo, returnTo]
  | nop | halt | stop | di | ei | illegal => exact ⟨rfl, rfl⟩

/-- No instruction writes the parameters (R8) or the coming inputs. -/
theorem exec_params_inputs {i : Instr} {s t : State} (h : exec i s = .next t) :
    t.params = s.params ∧ t.inputs = s.inputs := by
  rw [exec_eq] at h
  cases h
  exact run_params_inputs (effectOf i) s

end Sys2Proof.Machine

namespace Sys2Proof.Proofs

open Sys2Proof Sys2Proof.Machine

/-- Settles O20: the outside's transition takes one input and no parameter, and none of the four ways of a step that
follow it (R353) writes either. -/
theorem parametersAreConstant : Obligations.ParametersAreConstant := by
  intro s t h
  rcases step_cases s t h with ⟨_, -, rfl⟩ | ⟨-, -, -, rfl⟩ | ⟨-, -, -, -, rfl⟩ | ⟨-, -, -, u, hu, rfl⟩
  · simp
  · simp
  · simp
  · obtain ⟨hparams, hinputs⟩ := exec_params_inputs hu
    simp [hparams, hinputs]

end Sys2Proof.Proofs
end

section
/-! SUPPORT. The bytes of the paired views and of F: the halves of a word as numbers of eight bits, the high nibble of a
byte, and F rebuilt from its own flags (spec/10_state.md R22 to R25). -/

namespace Sys2Proof

/-- The high half is the quotient by 256. -/
theorem hiByte_eq_ofNat (v : Word) : hiByte v = BitVec.ofNat 8 (v.toNat / 256) := by
  apply BitVec.eq_of_toNat_eq
  have := v.isLt
  rw [hiByte_toNat, BitVec.toNat_ofNat]
  omega

/-- The low half is the word cut to eight bits. -/
theorem loByte_eq_ofNat (v : Word) : loByte v = BitVec.ofNat 8 v.toNat := by
  apply BitVec.eq_of_toNat_eq
  rw [loByte_toNat, BitVec.toNat_ofNat]

/-- A byte masked as `AF <- v` masks it, shifted down and up by a nibble. -/
theorem and_highNibble_eq_shifts (v : Byte) : v &&& 0xF0#8 = (v >>> 4) <<< 4 := by
  have hmask : ∀ i < 8, (0xF0#8).getLsbD i = !decide (i < 4) := by decide
  ext i hi
  simp only [← BitVec.getLsbD_eq_getElem, BitVec.getLsbD_and, hmask i hi, BitVec.getLsbD_shiftLeft,
    BitVec.getLsbD_ushiftRight, hi, decide_true, Bool.true_and]
  by_cases hlow : i < 4
  · simp [hlow]
  · simp [hlow, show 4 + (i - 4) = i by omega]

/-- A byte masked as `AF <- v` masks it, as a number. -/
theorem and_highNibble_eq_ofNat (v : Byte) : v &&& 0xF0#8 = BitVec.ofNat 8 (v.toNat / 16 * 16) := by
  apply BitVec.eq_of_toNat_eq
  simp [and_highNibble_eq_shifts, Nat.shiftRight_eq_div_pow, Nat.shiftLeft_eq]

/-- A byte with low nibble 0 is its high nibble. -/
theorem and_highNibble_of_clean {v : Byte} (h : v &&& 0x0F#8 = 0#8) : v &&& 0xF0#8 = v :=
  calc v &&& 0xF0#8 = (v &&& 0xF0#8) ||| (v &&& 0x0F#8) := by rw [h, BitVec.or_zero]
    _ = v &&& (0xF0#8 ||| 0x0F#8) := BitVec.and_or_distrib_left.symm
    _ = v := BitVec.and_allOnes

/-- The four low bits of a byte with low nibble 0. -/
theorem getLsbD_of_clean {v : Byte} (h : v &&& 0x0F#8 = 0#8) {i : Nat} (hi : i < 4) : v.getLsbD i = false := by
  have hmask : ∀ j < 4, (0x0F#8).getLsbD j = true := by decide
  have hbit := congrArg (BitVec.getLsbD · i) h
  simpa [hmask i hi] using hbit

end Sys2Proof

namespace Sys2Proof.Machine

open Sys2Proof.Claims (bit)

/-- F as a number (R22). -/
theorem packFlags_toNat (z n h c : Bool) :
    (packFlags z n h c).toNat = 128 * bit z + 64 * bit n + 32 * bit h + 16 * bit c := by
  cases z <;> cases n <;> cases h <;> cases c <;> rfl

/-- A clean F is packed from its own flags. -/
theorem State.packFlags_own {s : State} (h : s.flagsClean) : packFlags s.fZ s.fN s.fH s.fC = s.f := by
  refine BitVec.eq_of_getLsbD_eq fun i hi => ?_
  by_cases hlow : i < 4
  · rw [getLsbD_of_clean (packFlags_lowNibble _ _ _ _) hlow, getLsbD_of_clean h hlow]
  · obtain rfl | rfl | rfl | rfl : i = 4 ∨ i = 5 ∨ i = 6 ∨ i = 7 := by omega
    · exact packFlags_c ..
    · exact packFlags_h ..
    · exact packFlags_n ..
    · exact packFlags_z ..

end Sys2Proof.Machine
end

section
/-! SUPPORT. The invariant of Safety.lean under every operation: memory changes by bus writes alone, and F is written by
`packFlags` or masked (spec/10_state.md R22, R24). -/

namespace Sys2Proof.Machine

/-! The operand forms and the 16-bit bus write. -/

theorem State.setReg_inv (s : State) (r : Reg) (v : Byte) (h : s.Inv) : (s.setReg r v).Inv := by
  simpa [State.Inv, State.flagsClean] using h

/-- Writing the flags needs nothing of the old F. -/
theorem State.setFlags_inv (s : State) (z n hc cy : Bool) (h : s.Inv) : (s.setFlags z n hc cy).Inv :=
  ⟨h.1, packFlags_lowNibble z n hc cy⟩

theorem State.setPair_inv (s : State) (p : Pair) (v : Word) (h : s.Inv) : (s.setPair p v).Inv := by
  cases p <;> exact h

theorem State.setStackPair_inv (s : State) (p : StackPair) (v : Word) (h : s.Inv) : (s.setStackPair p v).Inv := by
  cases p with
  | bc | de | hl => exact h
  | af => exact ⟨h.1, masked_lowNibble (loByte v)⟩

theorem State.readTarget_inv (s : State) (t : Target) (h : s.Inv) : (s.readTarget t).2.Inv := by
  cases t with
  | reg r => exact h
  | atHL => exact s.busRead_inv s.hl h

theorem State.writeTarget_inv (s : State) (t : Target) (v : Byte) (h : s.Inv) : (s.writeTarget t v).Inv := by
  cases t with
  | reg r => exact s.setReg_inv r v h
  | atHL => exact s.busWrite_inv s.hl v h

theorem State.readSource_inv (s : State) (src : Source) (h : s.Inv) : (s.readSource src).2.Inv := by
  cases src with
  | reg r => exact h
  | atHL => exact s.busRead_inv s.hl h
  | imm n => exact h

theorem State.busWrite16_inv (s : State) (addr v : Word) (h : s.Inv) : (s.busWrite16 addr v).Inv :=
  State.busWrite_inv _ _ _ (s.busWrite_inv _ _ h)

/-! The shared operations of more than one form. -/

theorem aluA_inv (op : AluOp) (src : Source) (s : State) (h : s.Inv) : (aluA op src s).Inv := by
  have hread := s.readSource_inv src h
  refine State.setFlags_inv _ _ _ _ _ ?_
  split
  · exact hread
  · exact State.setReg_inv _ _ _ hread

theorem rotate_inv (op : RotOp) (t : Target) (s : State) (h : s.Inv) : (rotate op t s).Inv :=
  State.setFlags_inv _ _ _ _ _ (State.writeTarget_inv _ _ _ (s.readTarget_inv t h))

theorem testBit_inv (bit : Nat) (t : Target) (s : State) (h : s.Inv) : (testBit bit t s).Inv :=
  State.setFlags_inv _ _ _ _ _ (s.readTarget_inv t h)

theorem resetBit_inv (bit : Nat) (t : Target) (s : State) (h : s.Inv) : (resetBit bit t s).Inv :=
  State.writeTarget_inv _ _ _ (s.readTarget_inv t h)

theorem setBit_inv (bit : Nat) (t : Target) (s : State) (h : s.Inv) : (setBit bit t s).Inv :=
  State.writeTarget_inv _ _ _ (s.readTarget_inv t h)

theorem extendedAction_inv (op2 : Byte) (s : State) (h : s.Inv) : (extendedAction op2 s).Inv := by
  simp only [extendedAction]
  split
  · exact rotate_inv _ _ s h
  · exact testBit_inv _ _ s h
  · exact resetBit_inv _ _ s h
  · exact setBit_inv _ _ s h

/-! The instructions and the step. -/

/-- Every shared operation keeps the invariant. The invariant reads memory and F alone, so the update of another field
around the named lemma (HL, SP, PC, the control state) needs no lemma of its own. -/
theorem run_inv (e : Effect) (s : State) (h : s.Inv) : (e.run s).Inv := by
  cases e with
  | loadReg | loadImm => exact s.setReg_inv _ _ h
  | loadFrom | loadAndMove => exact State.setReg_inv _ _ _ (s.busRead_inv _ h)
  | storeTo | storeAndMove => exact s.busWrite_inv _ _ h
  | loadPair | movePair => exact s.setPair_inv _ _ h
  | storeSP addr => exact s.busWrite16_inv addr s.sp h
  | loadHLFromSPPlus | addHL | addSP | scf | ccf => exact State.setFlags_inv _ _ _ _ _ h
  | pushPair | call => exact s.push16_inv _ h
  | popPair p => exact State.setStackPair_inv _ p _ (s.pop16_inv h)
  | ret | reti => exact s.pop16_inv h
  | alu op src => exact aluA_inv op src s h
  | increment t | decrement t =>
    exact State.setFlags_inv _ _ _ _ _ (State.writeTarget_inv _ _ _ (s.readTarget_inv t h))
  | rotateA | daa | cpl => exact State.setFlags_inv _ _ _ _ _ (s.setReg_inv _ _ h)
  | rotate op t => exact rotate_inv op t s h
  | testBit bit t => exact testBit_inv bit t s h
  | resetBit bit t => exact resetBit_inv bit t s h
  | setBit bit t => exact setBit_inv bit t s h
  | extended op2 => exact extendedAction_inv op2 s h
  | jumpIf cc target =>
    simp only [Effect.run]
    split <;> exact h
  | callIf cc target =>
    simp only [Effect.run]
    split
    · exact s.push16_inv s.pc h
    · exact h
  | returnIf cc =>
    simp only [Effect.run]
    split
    · exact s.pop16_inv h
    · exact h
  | loadSPFromHL | jump | nop | halt | stop | di | ei | illegal => exact h

/-- Every instruction keeps the invariant. -/
theorem exec_inv {i : Instr} {s t : State} (h : s.Inv) (hexec : exec i s = .next t) : t.Inv := by
  rw [exec_eq] at hexec
  cases hexec
  exact run_inv (effectOf i) s h

theorem State.fetch_inv (s : State) (h : s.Inv) : s.fetch.2.Inv := by
  simpa [State.Inv, State.flagsClean] using h

theorem State.dispatchIrq_inv (s : State) (vector : Word) (h : s.Inv) : (s.dispatchIrq vector).Inv :=
  State.push16_inv { s with ime := false, imePending := false } s.pc h

end Sys2Proof.Machine
end

section
/-! SUPPORT. The control state (spec/10_state.md R30 to R33) seen as one value, so that what an operation does to its four
fields is one lemma. -/

namespace Sys2Proof.Machine

/-- The control state of R30 to R33. -/
structure Control where
  mode : Mode
  ime : Bool
  imePending : Bool
  fault : Option IllegalOpcode

/-- The control state within the state. -/
def State.control (s : State) : Control :=
  { mode := s.mode, ime := s.ime, imePending := s.imePending, fault := s.fault }

/-- What a shared operation makes of the control state, with PC as the operation sees it: HALT and STOP write the mode,
DI, EI and RETI the two halves of IME (R290, R313, R314), an Invalid byte the latch (R350), and no other anything. -/
def Effect.controlAfter (pc : Word) (k : Control) : Effect → Control
  | .halt => { k with mode := .halted }
  | .stop => { k with mode := .stopped }
  | .di => { k with ime := false, imePending := false }
  | .ei => { k with imePending := true }
  | .reti => { k with ime := true, imePending := false }
  | .illegal opcode => { k with fault := some { opcode := opcode, addr := pc - 1 } }
  | _ => k

@[simp] theorem State.jump_control (s : State) (v : Word) : (s.jump v).control = s.control := rfl
@[simp] theorem State.setSP_control (s : State) (v : Word) : (s.setSP v).control = s.control := rfl
@[simp] theorem State.setHL_control (s : State) (v : Word) : (s.setHL v).control = s.control := rfl
@[simp] theorem State.setFlags_control (s : State) (z n hc cy : Bool) :
    (s.setFlags z n hc cy).control = s.control := rfl
@[simp] theorem State.setReg_control (s : State) (r : Reg) (v : Byte) : (s.setReg r v).control = s.control := by
  simp [State.control]
@[simp] theorem State.setPair_control (s : State) (p : Pair) (v : Word) : (s.setPair p v).control = s.control := by
  cases p <;> rfl
@[simp] theorem State.setStackPair_control (s : State) (p : StackPair) (v : Word) :
    (s.setStackPair p v).control = s.control := by
  cases p <;> rfl
@[simp] theorem State.busRead_control (s : State) (addr : Word) : (s.busRead addr).2.control = s.control := by
  simp [State.control]
@[simp] theorem State.busWrite_control (s : State) (addr : Word) (v : Byte) :
    (s.busWrite addr v).control = s.control := by
  simp [State.control]
@[simp] theorem State.busWrite16_control (s : State) (addr v : Word) :
    (s.busWrite16 addr v).control = s.control := by
  simp [State.busWrite16]
@[simp] theorem State.push16_control (s : State) (v : Word) : (s.push16 v).control = s.control := by
  simp [State.control]
@[simp] theorem State.pop16_control (s : State) : s.pop16.2.control = s.control := by
  simp [State.control]
@[simp] theorem State.readTarget_control (s : State) (t : Target) : (s.readTarget t).2.control = s.control := by
  cases t with
  | reg r => rfl
  | atHL => exact s.busRead_control s.hl
@[simp] theorem State.writeTarget_control (s : State) (t : Target) (v : Byte) :
    (s.writeTarget t v).control = s.control := by
  cases t with
  | reg r => exact s.setReg_control r v
  | atHL => exact s.busWrite_control s.hl v
@[simp] theorem State.readSource_control (s : State) (src : Source) :
    (s.readSource src).2.control = s.control := by
  cases src with
  | reg r => rfl
  | atHL => exact s.busRead_control s.hl
  | imm n => rfl

@[simp] theorem rotate_control (op : RotOp) (t : Target) (s : State) : (rotate op t s).control = s.control := by
  simp [rotate]
@[simp] theorem testBit_control (bit : Nat) (t : Target) (s : State) : (testBit bit t s).control = s.control := by
  simp [testBit]
@[simp] theorem resetBit_control (bit : Nat) (t : Target) (s : State) : (resetBit bit t s).control = s.control := by
  simp [resetBit]
@[simp] theorem setBit_control (bit : Nat) (t : Target) (s : State) : (setBit bit t s).control = s.control := by
  simp [setBit]
@[simp] theorem extendedAction_control (op2 : Byte) (s : State) : (extendedAction op2 s).control = s.control := by
  simp only [extendedAction]
  split <;> simp

/-- Running a shared operation does to the control state what `Effect.controlAfter` says. -/
theorem run_control (e : Effect) (s : State) : (e.run s).control = e.controlAfter s.pc s.control := by
  cases e with
  | loadReg | loadImm | loadFrom | storeTo | loadAndMove | storeAndMove =>
    simp [Effect.run, Effect.controlAfter, loadReg, loadImm, loadFrom, storeTo, loadAndMove, storeAndMove]
  | loadPair | storeSP | loadSPFromHL | loadHLFromSPPlus | pushPair | popPair =>
    simp [Effect.run, Effect.controlAfter, loadPair, loadHLFromSPPlus, pushPair, popPair]
  | alu op src => by_cases hcp : op = .cp <;> simp [Effect.run, Effect.controlAfter, aluA, hcp]
  | increment | decrement | daa | cpl | scf | ccf =>
    simp [Effect.run, Effect.controlAfter, increment, decrement, decimalAdjust, complementA]
  | addHL | movePair | addSP => simp [Effect.run, Effect.controlAfter, addHL, movePair, addSP]
  | rotateA | rotate | testBit | resetBit | setBit | extended =>
    simp [Effect.run, Effect.controlAfter, rotateA]
  | jump | call | ret => simp [Effect.run, Effect.controlAfter, callTo, returnTo]
  | jumpIf cc | callIf cc | returnIf cc =>
    cases hcc : s.cond cc <;> simp [Effect.run, Effect.controlAfter, hcc, callTo, returnTo]
  | reti => simp [Effect.run, Effect.controlAfter, State.returnFromInterrupt, State.control]
  | nop | halt | stop | di | ei | illegal => rfl

/-- Every instruction does to the control state what `Effect.controlAfter` says of its operation. -/
theorem exec_control {i : Instr} {s t : State} (h : exec i s = .next t) :
    t.control = (effectOf i).controlAfter s.pc s.control := by
  rw [exec_eq] at h
  cases h
  exact run_control (effectOf i) s

end Sys2Proof.Machine
end

section
/-! The statements about the state (spec/10_state.md), each from the lemmas above. -/

namespace Sys2Proof.Proofs

open Sys2Proof Sys2Proof.Machine

/-- Settles O18: the outside keeps the invariant, and so does each of the four ways of a step that follow it (R353). -/
theorem everyStepKeepsTheInvariant : Obligations.EveryStepKeepsTheInvariant := by
  intro s t h hstep
  have hbegin : s.outside.Inv := s.outside_inv h
  rcases step_cases s t hstep with ⟨_, -, rfl⟩ | ⟨-, -, -, rfl⟩ | ⟨-, -, -, -, rfl⟩ | ⟨-, -, -, u, hu, rfl⟩
  · exact hbegin
  · exact hbegin
  · exact State.dispatchIrq_inv s.outside.wake _ hbegin
  · exact u.settleIme_inv _ (exec_inv (State.fetch_inv s.outside.wake hbegin) hu)

/-- Settles O21: `exec_control` gives the four fields, and at each instruction `Effect.controlAfter` of its operation is
the value the statement names; STOP's second byte decides its encoding, so it is split further. -/
theorem controlStateIsWrittenByTheNamedInstructionsOnly :
    Obligations.ControlStateIsWrittenByTheNamedInstructionsOnly := by
  intro i s t h
  have hcontrol := exec_control h
  have hmode := congrArg Control.mode hcontrol
  have hime := congrArg Control.ime hcontrol
  have hpending := congrArg Control.imePending hcontrol
  have hfault := congrArg Control.fault hcontrol
  cases i with
  | stop n => cases n <;> exact ⟨hmode, hime, hpending, hfault⟩
  | _ => exact ⟨hmode, hime, hpending, hfault⟩

/-- Settles O12, by evaluating `State.reset`. -/
theorem resetValues : Obligations.ResetValues :=
  ⟨rfl, rfl, rfl, rfl, rfl, rfl, rfl, rfl, rfl, rfl, rfl, rfl, rfl, rfl⟩

/-- Settles O19. -/
theorem resetMeetsTheInvariant : Obligations.ResetMeetsTheInvariant :=
  ⟨State.reset_mem_wf, State.reset_flagsClean⟩

/-- Settles O29: a joined word as a number for the reads, the halves of a word as numbers for the writes. -/
theorem pairedViews : Obligations.PairedViews := by
  intro s v
  refine ⟨joinBytes_toNat _ _, joinBytes_toNat _ _, joinBytes_toNat _ _, fun h => ?_, ?_, ?_, ?_, ?_⟩
  · rw [State.af, and_highNibble_of_clean h, joinBytes_toNat]
  · rw [State.setBC, hiByte_eq_ofNat, loByte_eq_ofNat]
  · rw [State.setDE, hiByte_eq_ofNat, loByte_eq_ofNat]
  · rw [State.setHL, hiByte_eq_ofNat, loByte_eq_ofNat]
  · rw [State.setAF, hiByte_eq_ofNat, and_highNibble_eq_ofNat, loByte_toNat]

/-- Settles O30: the value is `packFlags` as a number, and a clean F is packed from its own flags. -/
theorem flagsOfF : Obligations.FlagsOfF := by
  intro s z n h c
  refine ⟨packFlags_toNat z n h c, s.setFlags_fZ z n h c, s.setFlags_fN z n h c, s.setFlags_fH z n h c,
    s.setFlags_fC z n h c, rfl, fun hclean => ?_⟩
  rw [State.setFlags, State.packFlags_own hclean]

end Sys2Proof.Proofs
end

section
/-! SUPPORT. Canonical memory as the map it stands for (spec/20_memory.md R60 to R62): what is read back after a write,
and that two canonical memories of the same reads are one list. -/

namespace Sys2Proof.Machine

/-- A read after a write to canonical memory. -/
theorem Memory.read_write (m : Memory) (hm : m.wf = true) (addr other : Word) (v : Byte) :
    (m.write addr v).read other = if addr = other then v else m.read other := by
  split
  · next h => rw [← h, m.read_write_eq hm]
  · next h => exact m.read_write_ne addr other v h

/-- At its first address canonical memory does not read as an unlisted address does. -/
theorem Memory.lookup_head_ne_unlisted (head : Host.Cell) (tail : Memory) (h : Memory.wf (head :: tail) = true) :
    Memory.lookup (head :: tail) head.1 ≠ Memory.unlisted := by
  obtain ⟨-, hlisted, -, -⟩ := Memory.wf_cons head tail h
  simpa [Memory.lookup] using hlisted

/-- The first address of canonical memory is the lowest that does not read as an unlisted address does. -/
theorem Memory.head_le_of_lookup_ne_unlisted (head : Host.Cell) (tail : Memory)
    (h : Memory.wf (head :: tail) = true) (k : Nat) (hk : Memory.lookup (head :: tail) k ≠ Memory.unlisted) :
    head.1 ≤ k := by
  obtain ⟨-, -, hrise, -⟩ := Memory.wf_cons head tail h
  by_contra hlt
  refine hk (Memory.lookup_of_lt _ k fun c hc => ?_)
  rcases List.mem_cons.mp hc with rfl | hc
  · omega
  · have := hrise c hc
    omega

/-- The tail of canonical memory reads as the whole, but for the first address, which it does not list. -/
theorem Memory.lookup_tail (head : Host.Cell) (tail : Memory) (h : Memory.wf (head :: tail) = true) (k : Nat) :
    Memory.lookup tail k = if head.1 = k then Memory.unlisted else Memory.lookup (head :: tail) k := by
  obtain ⟨-, -, hrise, -⟩ := Memory.wf_cons head tail h
  split
  · next hk => exact Memory.lookup_of_lt tail k fun c hc => hk ▸ hrise c hc
  · next hk => rw [Memory.lookup, if_neg hk]

/-- Canonical memories that read the same at every address are equal: they begin at the same address, the lowest that
does not read as an unlisted one, hence with the same cell, and their tails read the same again. -/
theorem Memory.eq_of_lookup_eq (m n : Memory) (hm : m.wf = true) (hn : n.wf = true)
    (h : ∀ k < 65536, Memory.lookup m k = Memory.lookup n k) : m = n := by
  induction m generalizing n with
  | nil =>
    cases n with
    | nil => rfl
    | cons d n => exact absurd (h d.1 (Memory.wf_cons d n hn).1).symm (Memory.lookup_head_ne_unlisted d n hn)
  | cons c m ih =>
    obtain ⟨hc, -, -, hmtail⟩ := Memory.wf_cons c m hm
    cases n with
    | nil => exact absurd (h c.1 hc) (Memory.lookup_head_ne_unlisted c m hm)
    | cons d n =>
      obtain ⟨hd, -, -, hntail⟩ := Memory.wf_cons d n hn
      have haddr : c.1 = d.1 := Nat.le_antisymm
        (Memory.head_le_of_lookup_ne_unlisted c m hm d.1 (h d.1 hd ▸ Memory.lookup_head_ne_unlisted d n hn))
        (Memory.head_le_of_lookup_ne_unlisted d n hn c.1 (h c.1 hc ▸ Memory.lookup_head_ne_unlisted c m hm))
      have hbyte : c.2 = d.2 := by simpa [Memory.lookup, haddr] using h c.1 hc
      have htail : m = n := ih n hmtail hntail fun k hk => by
        rw [Memory.lookup_tail c m hm, Memory.lookup_tail d n hn, haddr, h k hk]
      rw [Prod.ext haddr hbyte, htail]

end Sys2Proof.Machine
end

section
/-! SUPPORT. The 16-bit accesses on the two buses (spec/20_memory.md R62, R66, R67), and the byte accesses of a
read-modify-write form in the oracle's record (R70). -/

namespace Sys2Proof

/-- A joined word from its number. -/
theorem joinBytes_eq_ofNat (hi lo : Byte) : joinBytes hi lo = BitVec.ofNat 16 (hi.toNat * 256 + lo.toNat) := by
  rw [← joinBytes_toNat, BitVec.ofNat_toNat, BitVec.setWidth_eq]

end Sys2Proof

namespace Sys2Proof.Machine

/-- `MemRead(addr, 2)` on the plain array. -/
theorem State.busRead16_plain (s : State) (addr : Word) (h : s.params.bus = .plain) :
    s.busRead16 addr = (joinBytes (s.mem.read (addr + 1)) (s.mem.read addr), s) := by
  simp only [State.busRead16, State.busRead_plain s _ h]

/-- `MemWrite(addr, 2, v)` on the plain array. -/
theorem State.busWrite16_plain (s : State) (addr v : Word) (h : s.params.bus = .plain) :
    s.busWrite16 addr v = { s with mem := (s.mem.write addr (loByte v)).write (addr + 1) (hiByte v) } := by
  rw [State.busWrite16, State.busWrite_plain _ _ _ (by simpa using h), State.busWrite_plain s _ _ h]

/-- A byte read in the oracle's record. -/
theorem State.busRead_busLog (s : State) (addr : Word) (h : s.params.bus = .oracle) :
    (s.busRead addr).2.busLog = s.busLog ++ [.read addr (Config.busDraw s.draws)] := by
  rw [State.busRead_oracle s addr h]

/-- A byte write in the oracle's record. -/
theorem State.busWrite_busLog (s : State) (addr : Word) (v : Byte) (h : s.params.bus = .oracle) :
    (s.busWrite addr v).busLog = s.busLog ++ [.write addr v] := by
  rw [State.busWrite_oracle s addr v h]

/-- `MemRead(addr, 2)` in the oracle's record. -/
theorem State.busRead16_busLog (s : State) (addr : Word) (h : s.params.bus = .oracle) :
    (s.busRead16 addr).2.busLog = s.busLog ++
      [.read addr (Config.busDraw s.draws), .read (addr + 1) (Config.busDraw (s.draws + 1))] := by
  rw [State.busRead16, State.busRead_busLog _ _ (by simpa using h), State.busRead_oracle s addr h, List.append_assoc]
  rfl

/-- `MemWrite(addr, 2, v)` in the oracle's record. -/
theorem State.busWrite16_busLog (s : State) (addr v : Word) (h : s.params.bus = .oracle) :
    (s.busWrite16 addr v).busLog = s.busLog ++ [.write addr (loByte v), .write (addr + 1) (hiByte v)] := by
  rw [State.busWrite16, State.busWrite_busLog _ _ _ (by simpa using h), State.busWrite_busLog _ _ _ h,
    List.append_assoc]
  rfl

/-- The read of an `(HL)` form, then its write, in the oracle's record: both are at HL. -/
theorem State.readWriteAtHL_busLog (s : State) (w : Byte) (h : s.params.bus = .oracle) :
    ((s.readTarget .atHL).2.writeTarget .atHL w).busLog =
      s.busLog ++ [.read s.hl (Config.busDraw s.draws), .write s.hl w] := by
  simp only [State.readTarget, State.writeTarget, State.busRead_hl]
  rw [State.busWrite_busLog _ _ _ (by simpa using h), State.busRead_busLog _ _ h, List.append_assoc]
  rfl

end Sys2Proof.Machine
end

section
/-! SUPPORT. The extended table (spec/30_encoding.md R103, R106) entry by entry, and the accesses of its `(HL)` forms
(spec/44_rotate_shift_bitop.md R240). -/

namespace Sys2Proof

/-! The three fields of a byte written field by field (R91). -/

@[simp] theorem fieldX_fields (x : BitVec 2) (y z : BitVec 3) : fieldX (x ++ y ++ z) = x :=
  (BitVec.extractLsb'_append_eq_of_le (by decide)).trans BitVec.extractLsb'_append_eq_left

@[simp] theorem fieldY_fields (x : BitVec 2) (y z : BitVec 3) : fieldY (x ++ y ++ z) = y :=
  (BitVec.extractLsb'_append_eq_of_le (by decide)).trans BitVec.extractLsb'_append_eq_right

@[simp] theorem fieldZ_fields (x : BitVec 2) (y z : BitVec 3) : fieldZ (x ++ y ++ z) = z :=
  BitVec.extractLsb'_append_eq_right

end Sys2Proof

namespace Sys2Proof.Machine

/-- The extended entry of a second byte does what the byte's fields x, y and z name, and reports that byte's cost: the
256 entries, one evaluation each. -/
theorem exec_extendedOf (op2 : Byte) (s : State) :
    exec (extendedOf op2) s = .next ((extendedAction op2 s).took (s.extendedCost op2)) := by
  have hentry : ∀ n < 256, exec (extendedOf (BitVec.ofNat 8 n)) s =
      .next ((extendedAction (BitVec.ofNat 8 n) s).took (s.extendedCost (BitVec.ofNat 8 n))) := by
    intro n hn
    interval_cases n <;> rfl
  simpa using hentry op2.toNat op2.isLt

/-- The bytes 0xCB and `op2` are the extended entry of `op2`. -/
theorem decode_extended (p : Params) (op2 : Byte) : decode p [0xCB#8, op2] = .ok (extendedOf op2) [] := rfl

/-- An extended `(HL)` form other than BIT reads HL once and then writes it once. -/
theorem extendedAction_atHL_busLog (op2 : Byte) (s : State) (h : s.params.bus = .oracle) (hz : fieldZ op2 = 6#3)
    (hx : fieldX op2 ≠ 1#2) :
    ∃ v w, (extendedAction op2 s).busLog = s.busLog ++ [.read s.hl v, .write s.hl w] := by
  have ht : targetOfCode (fieldZ op2) = .atHL := by rw [hz]; rfl
  simp only [extendedAction, ht]
  split
  · exact ⟨_, _, s.readWriteAtHL_busLog _ h⟩
  · next hone => exact absurd (BitVec.eq_of_toNat_eq hone) hx
  · exact ⟨_, _, s.readWriteAtHL_busLog _ h⟩
  · exact ⟨_, _, s.readWriteAtHL_busLog _ h⟩

/-- `BIT b,(HL)` reads HL once. -/
theorem testBit_atHL_busLog (bit : Nat) (s : State) (h : s.params.bus = .oracle) :
    (testBit bit .atHL s).busLog = s.busLog ++ [.read s.hl (Config.busDraw s.draws)] :=
  s.busRead_busLog s.hl h

/-- The second byte of `BIT b,(HL)` has that action (R106). -/
theorem extendedAction_bit_atHL (b : BitVec 3) (s : State) :
    extendedAction (0b01#2 ++ b ++ 0b110#3) s = testBit b.toNat .atHL s := by
  simp only [extendedAction, fieldX_fields, fieldY_fields, fieldZ_fields]
  rfl

end Sys2Proof.Machine
end

section
/-! The statements about bus, memory and stack (spec/20_memory.md), each from the lemmas above. -/

namespace Sys2Proof.Proofs

open Sys2Proof Sys2Proof.Machine

/-- Settles O23: the laws of a write, and canonical memories of the same reads are one list. -/
theorem memoryIsCanonical : Obligations.MemoryIsCanonical := by
  refine ⟨fun m addr v hm => ⟨m.wf_write addr v hm, fun other => m.read_write hm addr other v⟩, fun m n hm hn h => ?_⟩
  refine Memory.eq_of_lookup_eq m n hm hn fun k hk => ?_
  simpa [Memory.read, Nat.mod_eq_of_lt hk] using h (BitVec.ofNat 16 k)

/-- Settles O28: INC, DEC and the extended forms are a read and a write of the operand at HL, and BIT is the read. -/
theorem readModifyWriteAccessesTheBusTwice : Obligations.ReadModifyWriteAccessesTheBusTwice := by
  intro p s h
  refine ⟨fun bytes hbytes => ?_, fun b => ?_⟩
  · rcases hbytes with rfl | rfl | ⟨op2, hz, hx, rfl⟩
    · exact ⟨.inc_atHL, _, _, _, rfl, rfl, s.readWriteAtHL_busLog _ h⟩
    · exact ⟨.dec_atHL, _, _, _, rfl, rfl, s.readWriteAtHL_busLog _ h⟩
    · obtain ⟨v, w, hlog⟩ := extendedAction_atHL_busLog op2 s h hz hx
      exact ⟨_, _, v, w, decode_extended p op2, exec_extendedOf op2 s, hlog⟩
  · refine ⟨_, _, Config.busDraw s.draws, decode_extended p _, exec_extendedOf _ s, ?_⟩
    rw [State.took_busLog, extendedAction_bit_atHL, testBit_atHL_busLog _ s h]

/-- Settles O22, one bus at a time. -/
theorem theTwoBuses : Obligations.TheTwoBuses := by
  intro s addr other v
  refine ⟨fun h hm => ?_, fun h => ?_⟩
  · have hwrite := s.busWrite_plain addr v h
    refine ⟨by rw [s.busRead_plain addr h], by rw [hwrite], ?_⟩
    rw [State.busRead_plain _ other (by simpa using h), s.busRead_plain other h, hwrite]
    exact s.mem.read_write hm addr other v
  · exact ⟨by rw [s.busRead_oracle addr h], by rw [s.busRead_oracle addr h], s.busWrite_oracle addr v h⟩

/-- Settles O24: a 16-bit access as its two byte accesses, on each bus. -/
theorem sixteenBitAccessesAreLittleEndian : Obligations.SixteenBitAccessesAreLittleEndian := by
  intro s addr v
  rw [← hiByte_eq_ofNat, ← loByte_eq_ofNat]
  refine ⟨fun h => ⟨?_, fun hm other => ?_⟩, fun h => ⟨s.busRead16_busLog addr h, s.busWrite16_busLog addr v h⟩⟩
  · rw [s.busRead16_plain addr h, joinBytes_eq_ofNat]
  · rw [s.busWrite16_plain addr v h, Memory.read_write _ (s.mem.wf_write _ _ hm), s.mem.read_write hm]
    simp only [eq_comm]

/-- Settles O25: a push and a pop as one record update on each bus. The statement asks first for the byte at SP-1, which
the push writes first; the two addresses differ, so the order of the questions does not matter. -/
theorem pushAndPop : Obligations.PushAndPop := by
  intro s v
  rw [← hiByte_eq_ofNat, ← loByte_eq_ofNat]
  refine ⟨fun h hm => ⟨?_, fun other => ?_, ?_⟩, fun h => ⟨s.push16_oracle v h, ?_⟩⟩
  · rw [s.push16_plain v h]
  · have hne : s.sp - 2 ≠ s.sp - 1 := by bv_omega
    rw [s.push16_plain v h, Memory.read_write _ (s.mem.wf_write _ _ hm), s.mem.read_write hm]
    by_cases hhigh : other = s.sp - 1
    · rw [hhigh, if_neg hne, if_pos rfl, if_pos rfl]
    · rw [if_neg (Ne.symm hhigh), if_neg hhigh, if_congr eq_comm rfl rfl]
  · rw [s.pop16_plain h, joinBytes_eq_ofNat]
  · rw [s.pop16_oracle h]

end Sys2Proof.Proofs
end

section
/-! SUPPORT. The tables of spec/30_encoding.md read as a whole: the encoder agrees with every entry (R91, R104, R106),
`decode` and the descriptors as equations, and well-formed instructions and their bytes determine each other. -/

namespace Sys2Proof

/-- A statement over all bytes, from one over the 256 numbers. -/
theorem forall_byte {P : Byte → Prop} (number : ∀ n < 256, P (BitVec.ofNat 8 n)) (b : Byte) : P b := by
  simpa using number b.toNat b.isLt

/-! The encoder against the tables. -/

/-- What the encoder says of an entry when it agrees with the table: the entry's instructions are well-formed, and their
bytes are the opcode and the operand bytes (R91). STOP and 0xCB stand at their own bytes alone (R103, R111). Each
case is one equation, so that evaluation decides it. -/
def Shape.EncodesAt (p : Params) (op : Byte) : Shape → Prop
  | .op i => (i.wellFormed p, encode i) = (true, [op])
  | .n8 make | .e8 make => (fun n => ((make n).wellFormed p, encode (make n))) = fun n => (true, [op, n])
  | .n16 make =>
    (fun nn => ((make nn).wellFormed p, encode (make nn))) = fun nn => (true, [op, loByte nn, hiByte nn])
  | .stop => op = 0x10#8
  | .cb => op = 0xCB#8

/-- The encoder agrees with the primary table, one evaluation an entry (R104). -/
theorem shapeOf_encodesAt (p : Params) (op : Byte) : (shapeOf op).EncodesAt p op := by
  induction op using forall_byte with
  | number n hn => interval_cases n <;> rfl

/-- The encoder agrees with the extended table, one evaluation an entry (R106). -/
theorem extendedOf_encodes (p : Params) (op2 : Byte) :
    (extendedOf op2).wellFormed p = true ∧ encode (extendedOf op2) = [0xCB#8, op2] := by
  induction op2 using forall_byte with
  | number n hn => interval_cases n <;> exact ⟨rfl, rfl⟩

/-- The pseudo-descriptor is no entry of the extended table (R103): it is never well-formed. -/
theorem extendedOf_ne_prefix_CB (op2 n : Byte) : extendedOf op2 ≠ .prefix_CB n := by
  intro h
  obtain ⟨hwf, -⟩ := extendedOf_encodes Params.default op2
  rw [h] at hwf
  cases hwf

/-! Decoding. -/

/-- The instruction of an opcode and the bytes that follow it. -/
def instrOf (p : Params) (op : Byte) (operands : List Byte) : Instr :=
  assemble p (shapeOf op) (operands.getD 0 0) (operands.getD 1 0)

/-- With as many bytes behind the opcode as its entry counts, the instruction is well-formed and has these bytes. -/
theorem instrOf_encodes (p : Params) (op : Byte) (operands : List Byte)
    (hlen : operands.length = operandBytes p (shapeOf op)) :
    (instrOf p op operands).wellFormed p = true ∧ encode (instrOf p op operands) = op :: operands := by
  have hentry := shapeOf_encodesAt p op
  unfold instrOf
  generalize shapeOf op = sh at hlen hentry ⊢
  cases sh with
  | op i =>
    obtain rfl := List.length_eq_zero_iff.mp hlen
    exact Prod.mk.inj hentry
  | n8 make | e8 make =>
    obtain ⟨n, rfl⟩ := List.length_eq_one_iff.mp hlen
    exact Prod.mk.inj (congrFun hentry n)
  | n16 make =>
    obtain ⟨lo, hi, rfl⟩ := List.length_eq_two.mp hlen
    simpa [assemble] using Prod.mk.inj (congrFun hentry (joinBytes hi lo))
  | stop =>
    obtain rfl : op = 0x10#8 := hentry
    obtain ⟨len, _⟩ := p
    cases len with
    | one =>
      obtain rfl := List.length_eq_zero_iff.mp hlen
      exact ⟨rfl, rfl⟩
    | two =>
      obtain ⟨n, rfl⟩ := List.length_eq_one_iff.mp hlen
      exact ⟨rfl, rfl⟩
  | cb =>
    obtain rfl : op = 0xCB#8 := hentry
    obtain ⟨op2, rfl⟩ := List.length_eq_one_iff.mp hlen
    exact extendedOf_encodes p op2

/-- Decoding takes as many bytes behind the first as its entry counts (R90, R92). -/
theorem decode_cons (p : Params) (op : Byte) (rest : List Byte) :
    decode p (op :: rest) =
      if operandBytes p (shapeOf op) ≤ rest.length then
        .ok (instrOf p op (rest.take (operandBytes p (shapeOf op)))) (rest.drop (operandBytes p (shapeOf op)))
      else .rejected (.truncated op) := by
  have hle := operandBytes_le p (shapeOf op)
  simp only [decode, instrOf]
  generalize operandBytes p (shapeOf op) = k at hle ⊢
  interval_cases k
  · simp
  · cases rest <;> simp
  · rcases rest with _ | ⟨b1, _ | ⟨b2, rest⟩⟩ <;> simp

/-- An opcode and exactly its operand bytes. -/
theorem decode_exact (p : Params) (op : Byte) (operands : List Byte)
    (hlen : operands.length = operandBytes p (shapeOf op)) :
    decode p (op :: operands) = .ok (instrOf p op operands) [] := by
  simp [decode_cons, ← hlen]

/-- Three bytes always suffice (R90, R94). -/
theorem decode_three (p : Params) (op b1 b2 : Byte) :
    decode p [op, b1, b2] = .ok (instrOf p op ([b1, b2].take (operandBytes p (shapeOf op))))
      ([b1, b2].drop (operandBytes p (shapeOf op))) :=
  (decode_cons p op [b1, b2]).trans (if_pos (operandBytes_le p (shapeOf op)))

/-- What is decoded is well-formed, and its bytes are those that were used. -/
theorem encode_of_decode {p : Params} {bytes rest : List Byte} {i : Instr} (h : decode p bytes = .ok i rest) :
    i.wellFormed p = true ∧ encode i ++ rest = bytes := by
  cases bytes with
  | nil => cases h
  | cons op tail =>
    rw [decode_cons] at h
    split at h
    · next hle =>
      injection h with hi hrest
      obtain ⟨hwf, hbytes⟩ := instrOf_encodes p op (tail.take _) (List.length_take_of_le hle)
      rw [← hi, ← hrest, hbytes, List.cons_append, List.take_append_drop]
      exact ⟨hwf, rfl⟩
    · cases h

/-- The bytes of a well-formed instruction decode to it. Where nn is split into bytes and joined again, and where
`wellFormed` asks something, Laws/PerInstr.lean says why; every other entry is read off its table. -/
theorem decode_encode (p : Params) (i : Instr) (h : i.wellFormed p = true) : decode p (encode i) = .ok i [] := by
  cases i with
  | ld_BC_nn nn => exact Laws.RoundTrip.ld_BC_nn nn p h
  | ld_DE_nn nn => exact Laws.RoundTrip.ld_DE_nn nn p h
  | ld_HL_nn nn => exact Laws.RoundTrip.ld_HL_nn nn p h
  | ld_SP_nn nn => exact Laws.RoundTrip.ld_SP_nn nn p h
  | ld_atNN_SP nn => exact Laws.RoundTrip.ld_atNN_SP nn p h
  | ld_atNN_A nn => exact Laws.RoundTrip.ld_atNN_A nn p h
  | ld_A_atNN nn => exact Laws.RoundTrip.ld_A_atNN nn p h
  | jp_nn nn => exact Laws.RoundTrip.jp_nn nn p h
  | jp_NZ_nn nn => exact Laws.RoundTrip.jp_NZ_nn nn p h
  | jp_Z_nn nn => exact Laws.RoundTrip.jp_Z_nn nn p h
  | jp_NC_nn nn => exact Laws.RoundTrip.jp_NC_nn nn p h
  | jp_C_nn nn => exact Laws.RoundTrip.jp_C_nn nn p h
  | call_nn nn => exact Laws.RoundTrip.call_nn nn p h
  | call_NZ_nn nn => exact Laws.RoundTrip.call_NZ_nn nn p h
  | call_Z_nn nn => exact Laws.RoundTrip.call_Z_nn nn p h
  | call_NC_nn nn => exact Laws.RoundTrip.call_NC_nn nn p h
  | call_C_nn nn => exact Laws.RoundTrip.call_C_nn nn p h
  | stop n => exact Laws.RoundTrip.stop n p h
  | prefix_CB n => exact Laws.RoundTrip.prefix_CB n p h
  | _ => rfl

/-- Every instruction but the pseudo-descriptor is well-formed under some parameters: `STOP_LENGTH` alone matters. -/
theorem wellFormed_under_some_params (i : Instr) :
    (∃ n, i = .prefix_CB n) ∨ ∃ p : Params, i.wellFormed p = true := by
  cases i with
  | prefix_CB n => exact .inl ⟨n, rfl⟩
  | stop n =>
    cases n with
    | none => exact .inr ⟨{ Params.default with stopLength := .one }, rfl⟩
    | some n => exact .inr ⟨Params.default, rfl⟩
  | _ => exact .inr ⟨Params.default, rfl⟩

/-- Every instruction has a first byte (R90). -/
theorem encode_eq_cons (i : Instr) : ∃ op rest, encode i = op :: rest := by
  rcases wellFormed_under_some_params i with ⟨n, rfl⟩ | ⟨p, hp⟩
  · exact ⟨_, _, rfl⟩
  · have hdecode := decode_encode p i hp
    cases hbytes : encode i with
    | nil => rw [hbytes] at hdecode; cases hdecode
    | cons op rest => exact ⟨op, rest, rfl⟩

/-! The descriptors (R93, R107). -/

/-- The eleven Invalid entries of the primary table (R107). -/
theorem primaryDescriptor_invalid_iff (p : Params) (op : Byte) :
    (primaryDescriptor p op).cls = .invalid ↔ op ∈ Claims.invalidBytes := by
  have hclass : ∀ b : Byte, cell primaryClasses b .misc = .invalid ↔ b ∈ Claims.invalidBytes := by decide +kernel
  exact hclass op

/-- An Invalid entry has no cost. -/
theorem primaryDescriptor_cycles_invalid {p : Params} {op : Byte} (h : (primaryDescriptor p op).cls = .invalid) :
    (primaryDescriptor p op).cycles = none :=
  if_pos (.inl h)

/-- Every other entry but 0xCB has its base cost. -/
theorem primaryDescriptor_cycles_valid {p : Params} {op : Byte} (hprefix : op ≠ 0xCB#8)
    (h : (primaryDescriptor p op).cls ≠ .invalid) : (primaryDescriptor p op).cycles = some (p.cycles.baseOf op) :=
  if_neg (not_or.mpr ⟨h, hprefix⟩)

theorem primaryDescriptor_taken (p : Params) (op : Byte) :
    (primaryDescriptor p op).taken = if isConditional op then some (p.cycles.takenOf op) else none :=
  rfl

/-- No entry of the extended table is Invalid (R107). -/
theorem extendedDescriptor_valid (p : Params) (op2 : Byte) : (extendedDescriptor p op2).cls ≠ .invalid := by
  simp only [extendedDescriptor]
  split <;> decide

/-- In the table of R400 a conditional instruction costs more when it is taken. -/
theorem standard_baseOf_lt_takenOf {op : Byte} (h : isConditional op = true) :
    CycleTable.standard.baseOf op < CycleTable.standard.takenOf op := by
  have hcost : ∀ b : Byte, isConditional b = true → CycleTable.standard.baseOf b < standardTaken b := by
    decide +kernel
  rw [CycleTable.standard_takenOf]
  exact hcost op h

end Sys2Proof
end

section
/-! SUPPORT. What an executed instruction reports and raises, from its first byte (spec/30_encoding.md R93, R98; R330,
R350), and the meaning of 0xCB (R103). -/

namespace Sys2Proof.Machine

open Sys2Proof.Claims (condCode invalidBytes)

theorem exec_report {i : Instr} {s t : State} (h : exec i s = .next t) : t.report = reportOf i s := by
  rw [exec_eq] at h
  cases h
  rfl

/-- The meaning of 0xCB: the fields of the second byte name the action (R103, R106). -/
theorem exec_prefix_CB (op2 : Byte) (s : State) :
    exec (.prefix_CB op2) s = .next ((extendedAction op2 s).took (s.extendedCost op2)) :=
  rfl

/-- An instruction whose first byte is Invalid is that Invalid entry, and takes its exception (R330). -/
theorem effectOf_invalid {i : Instr} {op : Byte} {rest : List Byte} (hbytes : encode i = op :: rest)
    (hop : op ∈ invalidBytes) : effectOf i = .illegal op := by
  rcases wellFormed_under_some_params i with ⟨n, rfl⟩ | ⟨p, hp⟩
  · obtain ⟨rfl, -⟩ := List.cons.inj hbytes
    exact absurd hop (by decide)
  · have hdecode := decode_encode p i hp
    rw [hbytes] at hdecode
    unfold invalidBytes at hop
    fin_cases hop <;> (cases hdecode; rfl)

/-- The condition that bits 4 and 3 of an opcode name (R98). -/
theorem condOf_eq {op : Byte} {cc : Cond} (h : condCode cc = op.extractLsb' 3 2) : condOf op = cc := by
  rw [condOf, ← h]
  cases cc <;> rfl

end Sys2Proof.Machine
end

section
/-! SUPPORT. The fetch (spec/30_encoding.md R92) as a run of byte reads at PC, on each of the two buses. -/

namespace Sys2Proof.Machine

/-- `k` bytes read at PC one after the other, with the state behind them. -/
def State.fetchBytes : Nat → State → List Byte × State
  | 0, s => ([], s)
  | k + 1, s => (s.fetchByte.1 :: (s.fetchByte.2.fetchBytes k).1, (s.fetchByte.2.fetchBytes k).2)

/-- How many bytes the instruction at PC has, as its first byte decides (R110). -/
def State.fetchLength (s : State) : Nat := operandBytes s.params (shapeOf s.fetchByte.1) + 1

/-- A fetch reads the bytes of the instruction, of which all but the first are the operands. -/
theorem State.fetch_eq (s : State) :
    s.fetch =
      (instrOf s.params s.fetchByte.1 (s.fetchBytes s.fetchLength).1.tail, (s.fetchBytes s.fetchLength).2) := by
  have hle := operandBytes_le s.params (shapeOf s.fetchByte.1)
  simp only [State.fetch, instrOf, State.fetchLength]
  generalize operandBytes s.params (shapeOf s.fetchByte.1) = k at hle ⊢
  interval_cases k <;> rfl

theorem State.fetchBytes_length (k : Nat) (s : State) : (s.fetchBytes k).1.length = k := by
  induction k generalizing s with
  | zero => rfl
  | succ k ih => rw [State.fetchBytes, List.length_cons, ih]

/-- The bytes that a fetch reads decode to the instruction it answers. -/
theorem State.decode_fetchBytes (s : State) :
    decode s.params (s.fetchBytes s.fetchLength).1 = .ok s.fetch.1 [] := by
  rw [s.fetch_eq]
  exact decode_exact s.params s.fetchByte.1 _ (State.fetchBytes_length _ s.fetchByte.2)

/-- The address `k` behind the next one is `k + 1` behind this one. -/
theorem add_one_add_ofNat (a : Word) (k : Nat) : a + 1#16 + BitVec.ofNat 16 k = a + BitVec.ofNat 16 (k + 1) := by
  rw [BitVec.add_assoc, BitVec.add_comm 1#16, BitVec.ofNat_add]

theorem State.fetchBytes_pc (k : Nat) (s : State) : (s.fetchBytes k).2.pc = s.pc + BitVec.ofNat 16 k := by
  induction k generalizing s with
  | zero => simp [State.fetchBytes]
  | succ k ih => simp [State.fetchBytes, ih, add_one_add_ofNat]

/-- On the plain array the bytes are those of memory, and only PC moves (R62, R71). -/
theorem State.fetchBytes_plain (k : Nat) (s : State) (h : s.params.bus = .plain) :
    s.fetchBytes k = ((List.range k).map fun j => s.mem.read (s.pc + BitVec.ofNat 16 j),
      { s with pc := s.pc + BitVec.ofNat 16 k }) := by
  induction k generalizing s with
  | zero => simp [State.fetchBytes]
  | succ k ih =>
    rw [State.fetchBytes, ih _ (by simpa using h), State.fetchByte_plain s h, List.range_succ_eq_map]
    simp [add_one_add_ofNat, Function.comp_def]

/-- On the oracle the bytes are the coming draws, each recorded as a read at its address (R62). -/
theorem State.fetchBytes_oracle (k : Nat) (s : State) (h : s.params.bus = .oracle) :
    s.fetchBytes k = ((List.range k).map fun j => Config.busDraw (s.draws + j),
      { s with
        pc := s.pc + BitVec.ofNat 16 k, draws := s.draws + k
        busLog := s.busLog ++ (List.range k).map fun j =>
          .read (s.pc + BitVec.ofNat 16 j) (Config.busDraw (s.draws + j)) }) := by
  induction k generalizing s with
  | zero => simp [State.fetchBytes]
  | succ k ih =>
    rw [State.fetchBytes, ih _ (by simpa using h), State.fetchByte_oracle s h, List.range_succ_eq_map]
    simp [add_one_add_ofNat, Function.comp_def, Nat.add_assoc, Nat.add_comm 1]

/-- The values of a function at the first `k` numbers, with their positions. -/
theorem zipIdx_map_range {α : Type} (f : Nat → α) (k : Nat) :
    ((List.range k).map f).zipIdx = (List.range k).map fun j => (f j, j) :=
  List.ext_getElem (by simp) (by simp)

end Sys2Proof.Machine
end

section
/-! The statements about the encoding (spec/30_encoding.md), each from the lemmas above. -/

namespace Sys2Proof.Proofs

open Sys2Proof Sys2Proof.Machine

/-- Settles O1. -/
theorem decodeAfterEncodeGivesTheInstruction : Obligations.DecodeAfterEncodeGivesTheInstruction :=
  decode_encode

/-- Settles O2. -/
theorem encodeAfterDecodeGivesTheBytes : Obligations.EncodeAfterDecodeGivesTheBytes :=
  fun _ _ _ _ => encode_of_decode

/-- Settles O3. -/
theorem everyByteHasAnEntryAndElevenAreInvalid : Obligations.EveryByteHasAnEntryAndElevenAreInvalid :=
  fun p op b1 b2 =>
    ⟨⟨_, _, decode_three p op b1 b2⟩, primaryDescriptor_invalid_iff p op, extendedDescriptor_valid p op⟩

/-- Settles O4: the bytes used are the opcode and those its entry counts, and the count is read off the table for either
value of `STOP_LENGTH`. -/
theorem lengthIsDecidedByTheFirstByte : Obligations.LengthIsDecidedByTheFirstByte := by
  intro p op b1 b2
  refine ⟨_, _, decode_three p op b1 b2, ?_⟩
  have hused : 3 - ([b1, b2].drop (operandBytes p (shapeOf op))).length = operandBytes p (shapeOf op) + 1 := by
    have hle := operandBytes_le p (shapeOf op)
    simp only [List.length_drop, List.length_cons, List.length_nil]
    omega
  rw [hused]
  obtain ⟨len, _⟩ := p
  cases len with
  | one | two =>
    induction op using forall_byte with
    | number n hn => interval_cases n <;> rfl

/-- Settles O6: the report is `reportOf`. Behind 0xCB it is the extended cost; an Invalid byte raises its fault;
the other entries report the base cost or, where their condition holds, the taken one. -/
theorem reportedCyclesAreTheTables : Obligations.ReportedCyclesAreTheTables := by
  intro i s t h
  obtain ⟨op, rest, hbytes⟩ := encode_eq_cons i
  have hreport := exec_report h
  simp only [reportOf, hbytes] at hreport ⊢
  by_cases hprefix : op = 0xCB#8
  · simp only [if_pos hprefix] at hreport ⊢
    exact hreport
  simp only [if_neg hprefix] at hreport ⊢
  by_cases hinvalid : (primaryDescriptor s.params op).cls = .invalid
  · rw [if_pos hinvalid] at hreport
    simp only [primaryDescriptor_cycles_invalid hinvalid]
    have hcontrol := exec_control h
    rw [effectOf_invalid hbytes ((primaryDescriptor_invalid_iff _ op).mp hinvalid)] at hcontrol
    exact ⟨hinvalid, _, hreport, congrArg Control.fault hcontrol⟩
  · rw [if_neg hinvalid] at hreport
    simp only [primaryDescriptor_cycles_valid hprefix hinvalid, primaryDescriptor_taken]
    cases hconditional : isConditional op with
    | false =>
      rw [hreport, hconditional]
      rfl
    | true =>
      refine ⟨fun hstandard => hstandard ▸ standard_baseOf_lt_takenOf hconditional, fun cc hcc => ?_⟩
      rw [hreport, hconditional, Bool.true_and, condOf_eq hcc, apply_ite Report.cycles]
      rfl

/-- Settles O8: the bytes are those of `fetchBytes`, given on each bus by one equation. -/
theorem fetchReadsEachByteOnce : Obligations.FetchReadsEachByteOnce := by
  intro s
  refine ⟨(s.fetchBytes s.fetchLength).1, s.decode_fetchBytes, ?_⟩
  rw [State.fetchBytes_length, s.fetch_eq]
  refine ⟨s.fetchBytes_pc _, fun h => ?_, fun h => ?_⟩
  · rw [State.fetchBytes_plain _ s h]
    exact ⟨rfl, fun k hk => by simp [hk]⟩
  · rw [State.fetchBytes_oracle _ s h, zipIdx_map_range]
    exact ⟨by simp [Function.comp_def], rfl, fun k hk => by simp [hk]⟩

/-- Settles O56: PREFIX CB and the extended entry are the same action, named by the fields of the second byte. -/
theorem prefixRedirectsToTheExtendedTable : Obligations.PrefixRedirectsToTheExtendedTable :=
  fun p op2 =>
    ⟨_, decode_extended p op2, extendedOf_ne_prefix_CB op2, fun s =>
      ⟨_, exec_prefix_CB op2 s, exec_extendedOf op2 s⟩⟩

/-- Settles O5, by decoding each word. -/
theorem wordsOfTheSpecDecode : Obligations.WordsOfTheSpecDecode :=
  fun _ => ⟨rfl, rfl, rfl, rfl, rfl, rfl, rfl, rfl, rfl, rfl⟩

/-- Settles O50: Zero and Carry are bits 7 and 4 of F as a number. -/
theorem conditions : Obligations.Conditions := by
  intro s
  have hzero : s.fZ = decide (s.f.toNat / 128 % 2 = 1) := Nat.testBit_eq_decide_div_mod_eq
  have hcarry : s.fC = decide (s.f.toNat / 16 % 2 = 1) := Nat.testBit_eq_decide_div_mod_eq
  simp [State.cond, hzero, hcarry]

end Sys2Proof.Proofs
end

section
/-! SUPPORT. Frames built access by access (spec/10_state.md R23, spec/20_memory.md R62): what `Keeps` allows stays
allowed when one register, F, SP or one byte of memory that may be written is written. -/

namespace Sys2Proof.Machine

/-- A push as writes of SP and of memory, one after the other (R68). -/
theorem State.push16_eq (s : State) (v : Word) :
    s.push16 v = (((s.setSP (s.sp - 1)).busWrite (s.sp - 1) (hiByte v)).setSP (s.sp - 2)).busWrite (s.sp - 2)
      (loByte v) := by
  have hsp : ((s.setSP (s.sp - 1)).busWrite (s.sp - 1) (hiByte v)).sp - 1 = s.sp - 2 := by
    rw [State.busWrite_sp, State.setSP_sp, BitVec.sub_sub]
    rfl
  rw [← hsp]
  rfl

end Sys2Proof.Machine

namespace Sys2Proof.Claims

open Sys2Proof.Machine

variable {w : MayWrite} {s t : State}

/-- Nothing has changed yet. -/
theorem Keeps.refl (w : MayWrite) (s : State) : Keeps w s s where
  regs _ _ := rfl
  flags := rfl
  wholeF _ := rfl
  sp _ := rfl
  pc _ := rfl
  ime _ := ⟨rfl, rfl⟩
  mode _ := rfl
  fault _ := rfl
  outside := ⟨rfl, rfl, rfl⟩
  oracle _ := ⟨rfl, rfl⟩
  mem _ _ := rfl

/-- The report may always change. -/
theorem Keeps.took (h : Keeps w s t) (n : Nat) : Keeps w s (t.took n) :=
  { h with regs := fun q hq => (t.took_reg n q).trans (h.regs q hq) }

theorem Keeps.setReg (h : Keeps w s t) {r : Reg} (hr : r ∈ w.regs) (v : Byte) : Keeps w s (t.setReg r v) := by
  have hregs : ∀ q, q ∉ w.regs → (t.setReg r v).reg q = s.reg q := fun q hq => by
    rw [State.reg_setReg, if_neg (ne_of_mem_of_not_mem hr hq).symm, h.regs q hq]
  cases r <;> exact { h with regs := hregs }

theorem Keeps.setSP (h : Keeps w s t) (hw : w.sp = true) (v : Word) : Keeps w s (t.setSP v) :=
  { h with
    regs := fun q hq => (t.setSP_reg v q).trans (h.regs q hq)
    sp := fun hsp => absurd hsp (by simp [hw]) }

/-- F may take a value that differs only in the bits that may be written. -/
theorem Keeps.setF (h : Keeps w s t) (hw : w.flags ≠ 0x00#8) {v : Byte}
    (hv : v &&& (0xF0#8 &&& ~~~w.flags) = t.f &&& (0xF0#8 &&& ~~~w.flags)) : Keeps w s { t with f := v } :=
  { h with
    regs := fun q hq => (show State.reg { t with f := v } q = t.reg q by cases q <;> rfl).trans (h.regs q hq)
    flags := hv.trans h.flags
    wholeF := fun hnone => absurd hnone hw }

/-- A bus read changes nothing on the plain array, and only the record on the oracle. -/
theorem Keeps.busRead (h : Keeps w s t) (addr : Word) : Keeps w s (t.busRead addr).2 := by
  cases hbus : t.params.bus with
  | plain => simpa only [t.busRead_plain addr hbus] using h
  | oracle =>
    obtain ⟨hparams, -, -⟩ := h.outside
    have hregs : ∀ q, q ∉ w.regs → (t.busRead addr).2.reg q = s.reg q := fun q hq =>
      (t.busRead_reg addr q).trans (h.regs q hq)
    rw [t.busRead_oracle addr hbus] at hregs ⊢
    exact { h with regs := hregs, oracle := fun hplain => by simp [← hparams, hbus] at hplain }

/-- A bus write changes one byte on the plain array, and only the record on the oracle. -/
theorem Keeps.busWrite (h : Keeps w s t) {addr : Word} (haddr : addr ∈ w.mem s) (v : Byte) :
    Keeps w s (t.busWrite addr v) := by
  have hregs : ∀ q, q ∉ w.regs → (t.busWrite addr v).reg q = s.reg q := fun q hq =>
    (t.busWrite_reg addr v q).trans (h.regs q hq)
  cases hbus : t.params.bus with
  | plain =>
    rw [t.busWrite_plain addr v hbus] at hregs ⊢
    exact { h with
      regs := hregs
      mem := fun other hother =>
        (t.mem.read_write_ne addr other v fun heq => hother (heq ▸ haddr)).trans (h.mem other hother) }
  | oracle =>
    obtain ⟨hparams, -, -⟩ := h.outside
    rw [t.busWrite_oracle addr v hbus] at hregs ⊢
    exact { h with regs := hregs, oracle := fun hplain => by simp [← hparams, hbus] at hplain }

/-! Pairs, and the 16-bit accesses. -/

theorem Keeps.setBC (h : Keeps w s t) (hb : .b ∈ w.regs) (hc : .c ∈ w.regs) (v : Word) : Keeps w s (t.setBC v) :=
  (h.setReg hb (hiByte v)).setReg hc (loByte v)

theorem Keeps.setDE (h : Keeps w s t) (hd : .d ∈ w.regs) (he : .e ∈ w.regs) (v : Word) : Keeps w s (t.setDE v) :=
  (h.setReg hd (hiByte v)).setReg he (loByte v)

theorem Keeps.setHL (h : Keeps w s t) (hh : .h ∈ w.regs) (hl : .l ∈ w.regs) (v : Word) : Keeps w s (t.setHL v) :=
  (h.setReg hh (hiByte v)).setReg hl (loByte v)

theorem Keeps.setAF (h : Keeps w s t) (ha : .a ∈ w.regs) (hw : w.flags = 0xF0#8) (v : Word) : Keeps w s (t.setAF v) :=
  Keeps.setF (h.setReg ha (hiByte v)) (by simp [hw]) (by simp [hw])

theorem Keeps.busWrite16 (h : Keeps w s t) {addr : Word} (hlow : addr ∈ w.mem s) (hhigh : addr + 1 ∈ w.mem s)
    (v : Word) : Keeps w s (t.busWrite16 addr v) :=
  (h.busWrite hlow (loByte v)).busWrite hhigh (hiByte v)

theorem Keeps.push16 (h : Keeps w s t) (hw : w.sp = true) (hhigh : t.sp - 1 ∈ w.mem s) (hlow : t.sp - 2 ∈ w.mem s)
    (v : Word) : Keeps w s (t.push16 v) := by
  rw [t.push16_eq v]
  exact (((h.setSP hw _).busWrite hhigh _).setSP hw _).busWrite hlow _

theorem Keeps.pop16 (h : Keeps w s t) (hw : w.sp = true) : Keeps w s t.pop16.2 :=
  (((h.busRead t.sp).setSP hw _).busRead _).setSP hw _

/-- What the state given by `f` keeps, the bytes that run `f` keep. -/
theorem Runs.frameOf {bytes : List Byte} {n : Nat} {f : State → State} (hruns : Runs bytes n f)
    (hkeeps : ∀ s, Keeps w s (f s)) : FrameOf bytes w := by
  intro p s
  obtain ⟨-, i, hdecode, hexec⟩ := hruns p
  exact ⟨i, _, hdecode, hexec s, (hkeeps s).took _⟩

end Sys2Proof.Claims
end

section
/-! SUPPORT. The frames of the loads, of PUSH and of POP (spec/40_load8.md R130, spec/41_load16_stack.md R170), one for each
shared operation. -/

namespace Sys2Proof.Machine

open Sys2Proof.Claims

theorem setReg_keeps (r : Reg) (v : Byte) (s : State) : Keeps { regs := [r] } s (s.setReg r v) :=
  (Keeps.refl _ s).setReg (by simp) v

theorem loadFrom_keeps (dst : Reg) (addr : Word) (s : State) : Keeps { regs := [dst] } s (loadFrom dst addr s) :=
  ((Keeps.refl _ s).busRead addr).setReg (by simp) _

theorem storeTo_keeps (addr : State → Word) (v : Byte) (s : State) :
    Keeps { mem := fun s => [addr s] } s (storeTo (addr s) v s) :=
  (Keeps.refl _ s).busWrite (by simp) v

theorem loadAndMove_keeps (step : Word) (s : State) : Keeps { regs := [.a, .h, .l] } s (loadAndMove step s) :=
  (((Keeps.refl _ s).busRead s.hl).setReg (by simp) _).setHL (by simp) (by simp) _

theorem storeAndMove_keeps (step : Word) (s : State) :
    Keeps { regs := [.h, .l], mem := fun s => [s.hl] } s (storeAndMove step s) :=
  ((Keeps.refl _ s).busWrite (by simp) s.a).setHL (by simp) (by simp) _

theorem storeSP_keeps (addr : Word) (s : State) :
    Keeps { mem := fun _ => [addr, addr + 1] } s (s.busWrite16 addr s.sp) :=
  (Keeps.refl _ s).busWrite16 (by simp) (by simp) s.sp

theorem loadHLFromSPPlus_keeps (e : Byte) (s : State) :
    Keeps { regs := [.h, .l], flags := 0xF0#8 } s (loadHLFromSPPlus e s) :=
  ((Keeps.refl _ s).setHL (by simp) (by simp) _).setF (by simp) (by simp)

theorem pushPair_keeps (qq : StackPair) (s : State) :
    Keeps { sp := true, mem := fun s => [s.sp - 1, s.sp - 2] } s (pushPair qq s) :=
  (Keeps.refl _ s).push16 rfl (by simp) (by simp) _

/-- What `rr <- nn` may write. -/
def pairFrame : Pair → MayWrite
  | .bc => { regs := [.b, .c] }
  | .de => { regs := [.d, .e] }
  | .hl => { regs := [.h, .l] }
  | .sp => { sp := true }

theorem setPair_keeps (rr : Pair) (v : Word) (s : State) : Keeps (pairFrame rr) s (s.setPair rr v) := by
  cases rr with
  | bc => exact (Keeps.refl _ s).setBC (by simp [pairFrame]) (by simp [pairFrame]) v
  | de => exact (Keeps.refl _ s).setDE (by simp [pairFrame]) (by simp [pairFrame]) v
  | hl => exact (Keeps.refl _ s).setHL (by simp [pairFrame]) (by simp [pairFrame]) v
  | sp => exact (Keeps.refl _ s).setSP rfl v

/-- What `qq <- Pop16()` may write. -/
def popFrame : StackPair → MayWrite
  | .bc => { regs := [.b, .c], sp := true }
  | .de => { regs := [.d, .e], sp := true }
  | .hl => { regs := [.h, .l], sp := true }
  | .af => { regs := [.a], flags := 0xF0#8, sp := true }

theorem popPair_keeps (qq : StackPair) (s : State) : Keeps (popFrame qq) s (popPair qq s) := by
  cases qq with
  | bc => exact ((Keeps.refl _ s).pop16 rfl).setBC (by simp [popFrame]) (by simp [popFrame]) _
  | de => exact ((Keeps.refl _ s).pop16 rfl).setDE (by simp [popFrame]) (by simp [popFrame]) _
  | hl => exact ((Keeps.refl _ s).pop16 rfl).setHL (by simp [popFrame]) (by simp [popFrame]) _
  | af => exact ((Keeps.refl _ s).pop16 rfl).setAF (by simp [popFrame]) rfl _

end Sys2Proof.Machine
end

section
/-! SUPPORT. The addresses of the loads (spec/40_load8.md R142 to R151), and the bytes of the 16-bit loads, PUSH and POP
(spec/41_load16_stack.md R171 to R181) as instructions that run their shared operations. A `Runs` is shown by naming the instruction; its cost, its decoding and its
execution are then one evaluation each. -/

namespace Sys2Proof.Machine

open Sys2Proof.Claims

/-- 0xFF00 plus a byte has the two as its halves: "the sum cannot carry" (R151). -/
theorem highPage_eq_append (n : Byte) : highPage n = 0xFF#8 ++ n := by
  apply BitVec.eq_of_toNat_eq
  have hjoin := joinBytes_toNat 0xFF#8 n
  have hn := n.isLt
  rw [joinBytes] at hjoin
  rw [hjoin, highPage, zext16, BitVec.toNat_add, BitVec.toNat_setWidth]
  simp only [BitVec.toNat_ofNat]
  omega

/-- HL moves from where it was before the store (R142, R144). -/
theorem storeAndMove_eq (step : Word) (s : State) :
    storeAndMove step s = (s.busWrite s.hl s.a).setHL (s.hl + step) := by
  rw [storeAndMove, State.busWrite_hl]

/-- `LD (HL+),A` and `LD (HL-),A` (R142, R144). -/
theorem runs_storeAndMove : Runs [0x22#8] 8 (storeAndMove 1) ∧ Runs [0x32#8] 8 (storeAndMove (-1)) :=
  ⟨fun _ => ⟨rfl, .ld_atHLinc_A, rfl, fun _ => rfl⟩, fun _ => ⟨rfl, .ld_atHLdec_A, rfl, fun _ => rfl⟩⟩

/-- `LD A,(HL+)` and `LD A,(HL-)` (R143, R145). -/
theorem runs_loadAndMove : Runs [0x2A#8] 8 (loadAndMove 1) ∧ Runs [0x3A#8] 8 (loadAndMove (-1)) :=
  ⟨fun _ => ⟨rfl, .ld_A_atHLinc, rfl, fun _ => rfl⟩, fun _ => ⟨rfl, .ld_A_atHLdec, rfl, fun _ => rfl⟩⟩

theorem runs_loadPair (rr : Pair) (lo hi : Byte) :
    Runs [0b00#2 ++ pairCode rr ++ 0b0001#4, lo, hi] 12 (loadPair rr (hi ++ lo)) := by
  cases rr <;> exact fun _ => ⟨rfl, _, rfl, fun _ => rfl⟩

theorem runs_pushPair (qq : StackPair) : Runs [0b11#2 ++ stackCode qq ++ 0b0101#4] 16 (pushPair qq) := by
  cases qq <;> exact fun _ => ⟨rfl, _, rfl, fun _ => rfl⟩

theorem runs_popPair (qq : StackPair) : Runs [0b11#2 ++ stackCode qq ++ 0b0001#4] 12 (popPair qq) := by
  cases qq <;> exact fun _ => ⟨rfl, _, rfl, fun _ => rfl⟩

theorem runs_storeSP (lo hi : Byte) : Runs [0x08#8, lo, hi] 20 fun s => s.busWrite16 (hi ++ lo) s.sp :=
  fun _ => ⟨rfl, .ld_atNN_SP (hi ++ lo), rfl, fun _ => rfl⟩

theorem runs_loadSPFromHL : Runs [0xF9#8] 8 fun s => s.setSP s.hl :=
  fun _ => ⟨rfl, .ld_SP_HL, rfl, fun _ => rfl⟩

theorem runs_loadHLFromSPPlus (e : Byte) : Runs [0xF8#8, e] 12 (loadHLFromSPPlus e) :=
  fun _ => ⟨rfl, .ld_HL_SPe e, rfl, fun _ => rfl⟩

end Sys2Proof.Machine
end

section
/-! The statements about the 8-bit loads (spec/40_load8.md), and the frame of all loads, PUSH and POP. -/

namespace Sys2Proof.Proofs

open Sys2Proof Sys2Proof.Machine Sys2Proof.Claims

/-- Settles O31: the entry of each pair of registers, and of each register, is read off the table. -/
theorem loadRegister : Obligations.LoadRegister := by
  refine ⟨fun dst src => ?_, fun dst n => ?_⟩
  · cases dst <;> cases src <;> exact fun _ => ⟨rfl, _, rfl, fun _ => rfl⟩
  · cases dst <;> exact fun _ => ⟨rfl, _, rfl, fun _ => rfl⟩

/-- Settles O32: the entry of each register is read off the table; the address is that of HL before the access. -/
theorem loadThroughHL : Obligations.LoadThroughHL := by
  refine ⟨fun dst => ?_, fun src => ?_, fun n => ?_⟩
  · cases dst <;> exact fun _ => ⟨rfl, _, rfl, fun _ => rfl⟩
  · cases src <;> exact fun _ => ⟨rfl, _, rfl, fun _ => rfl⟩
  · exact fun _ => ⟨rfl, .ld_atHL_n n, rfl, fun _ => rfl⟩

/-- Settles O33, by the six instructions; nn is the word of its two bytes. -/
theorem loadAThroughPairsAndAbsolute : Obligations.LoadAThroughPairsAndAbsolute :=
  ⟨fun _ => ⟨rfl, .ld_A_atBC, rfl, fun _ => rfl⟩, fun _ => ⟨rfl, .ld_A_atDE, rfl, fun _ => rfl⟩,
    fun _ => ⟨rfl, .ld_atBC_A, rfl, fun _ => rfl⟩, fun _ => ⟨rfl, .ld_atDE_A, rfl, fun _ => rfl⟩,
    fun lo hi => ⟨fun _ => ⟨rfl, .ld_A_atNN (hi ++ lo), rfl, fun _ => rfl⟩,
      fun _ => ⟨rfl, .ld_atNN_A (hi ++ lo), rfl, fun _ => rfl⟩⟩⟩

/-- Settles O34: the store leaves HL alone, and one less is the step -1. -/
theorem loadAndMoveHL : Obligations.LoadAndMoveHL := by
  unfold Obligations.LoadAndMoveHL
  simp only [BitVec.sub_eq_add_neg, ← storeAndMove_eq]
  exact ⟨runs_storeAndMove.1, runs_loadAndMove.1, runs_storeAndMove.2, runs_loadAndMove.2⟩

/-- Settles O35: the address 0xFF00 + n is 0xFF joined with n. -/
theorem loadHighPage : Obligations.LoadHighPage := by
  unfold Obligations.LoadHighPage
  simp only [← highPage_eq_append]
  exact ⟨fun n => ⟨fun _ => ⟨rfl, .ldh_atN_A n, rfl, fun _ => rfl⟩, fun _ => ⟨rfl, .ldh_A_atN n, rfl, fun _ => rfl⟩⟩,
    fun _ => ⟨rfl, .ld_atC_A, rfl, fun _ => rfl⟩, fun _ => ⟨rfl, .ld_A_atC, rfl, fun _ => rfl⟩⟩

/-- Settles O57: each form runs a shared operation, by the statements above or by the rules of its bytes, and the frame is
that operation's. -/
theorem frameOfLoadsAndStack : Obligations.FrameOfLoadsAndStack := by
  obtain ⟨hregReg, hregImm⟩ := loadRegister
  obtain ⟨hregHL, hHLReg, hHLImm⟩ := loadThroughHL
  obtain ⟨hABC, hADE, hBCA, hDEA, habsolute⟩ := loadAThroughPairsAndAbsolute
  obtain ⟨hHLincA, hHLdecA⟩ := runs_storeAndMove
  obtain ⟨hAHLinc, hAHLdec⟩ := runs_loadAndMove
  obtain ⟨hhigh, hatCA, hAatC⟩ := loadHighPage
  refine ⟨?_, ?_, ?_, ?_, ?_, ?_, ?_, ?_, ?_, ?_, ?_, ?_, ?_, ?_, ?_, ?_, ?_, ?_, ?_, ?_, ?_, ?_, ?_, ?_, ?_⟩
  · exact fun dst src => (hregReg dst src).frameOf fun s => setReg_keeps dst _ s
  · exact fun dst n => (hregImm dst n).frameOf (setReg_keeps dst n)
  · exact fun dst => (hregHL dst).frameOf fun s => loadFrom_keeps dst s.hl s
  · exact fun src => (hHLReg src).frameOf fun s => storeTo_keeps State.hl _ s
  · exact fun n => (hHLImm n).frameOf (storeTo_keeps State.hl n)
  · exact hABC.frameOf fun s => loadFrom_keeps .a s.bc s
  · exact hADE.frameOf fun s => loadFrom_keeps .a s.de s
  · exact hBCA.frameOf fun s => storeTo_keeps State.bc _ s
  · exact hDEA.frameOf fun s => storeTo_keeps State.de _ s
  · intro lo hi
    obtain ⟨hload, hstore⟩ := habsolute lo hi
    exact ⟨hload.frameOf (loadFrom_keeps .a (hi ++ lo)), hstore.frameOf fun s => storeTo_keeps (fun _ => hi ++ lo) _ s⟩
  · exact hHLincA.frameOf (storeAndMove_keeps 1)
  · exact hAHLinc.frameOf (loadAndMove_keeps 1)
  · exact hHLdecA.frameOf (storeAndMove_keeps (-1))
  · exact hAHLdec.frameOf (loadAndMove_keeps (-1))
  · intro n
    obtain ⟨hstore, hload⟩ := hhigh n
    exact ⟨hstore.frameOf fun s => storeTo_keeps (fun _ => 0xFF#8 ++ n) _ s,
      hload.frameOf (loadFrom_keeps .a (0xFF#8 ++ n))⟩
  · exact hatCA.frameOf fun s => storeTo_keeps (fun s => 0xFF#8 ++ s.c) _ s
  · exact hAatC.frameOf fun s => loadFrom_keeps .a (0xFF#8 ++ s.c) s
  · exact fun lo hi => ⟨(runs_loadPair .bc lo hi).frameOf (setPair_keeps .bc _),
      (runs_loadPair .de lo hi).frameOf (setPair_keeps .de _), (runs_loadPair .hl lo hi).frameOf (setPair_keeps .hl _),
      (runs_loadPair .sp lo hi).frameOf (setPair_keeps .sp _), (runs_storeSP lo hi).frameOf (storeSP_keeps (hi ++ lo))⟩
  · exact runs_loadSPFromHL.frameOf fun s => setPair_keeps .sp s.hl s
  · exact fun e => (runs_loadHLFromSPPlus e).frameOf (loadHLFromSPPlus_keeps e)
  · exact fun qq => (runs_pushPair qq).frameOf (pushPair_keeps qq)
  · exact (runs_popPair .bc).frameOf (popPair_keeps .bc)
  · exact (runs_popPair .de).frameOf (popPair_keeps .de)
  · exact (runs_popPair .hl).frameOf (popPair_keeps .hl)
  · exact (runs_popPair .af).frameOf (popPair_keeps .af)

end Sys2Proof.Proofs
end

section
/-! SUPPORT. SP plus a signed byte, and its flags, as the numbers of spec/41_load16_stack.md R177. -/

namespace Sys2Proof.Machine

open Sys2Proof.Claims

/-- SP plus the sign-extended byte is their sum over the integers, cut to 16 bits. -/
theorem add_sext16_eq_ofInt (sp : Word) (e : Byte) : sp + sext16 e = BitVec.ofInt 16 (sp.toNat + e.toInt) := by
  rw [BitVec.ofInt_add, BitVec.ofInt_natCast, BitVec.ofNat_toNat, BitVec.setWidth_eq]
  rfl

/-- The raw byte widened to a word keeps its number. -/
theorem zext16_toNat (n : Byte) : (zext16 n).toNat = n.toNat :=
  BitVec.toNat_setWidth_of_le (by decide)

/-- The carry out of bit 3, from the low nibbles as remainders. -/
theorem spPlusHalf_eq (sp : Word) (e : Byte) :
    spPlusHalf sp e = decide (sp.toNat % 16 + e.toNat % 16 > 15) := by
  have hnibble : ∀ v : Word, (v &&& 0x000F#16).toNat = v.toNat % 16 := fun v =>
    (BitVec.toNat_and ..).trans (Nat.and_two_pow_sub_one_eq_mod v.toNat 4)
  rw [spPlusHalf, hnibble, hnibble, zext16_toNat]

/-- The carry out of bit 7, from SP's low byte as a remainder. -/
theorem spPlusCarry_eq (sp : Word) (e : Byte) :
    spPlusCarry sp e = decide (sp.toNat % 256 + e.toNat > 255) := by
  have hbyte : (sp &&& 0x00FF#16).toNat = sp.toNat % 256 :=
    (BitVec.toNat_and ..).trans (Nat.and_two_pow_sub_one_eq_mod sp.toNat 8)
  rw [spPlusCarry, hbyte, zext16_toNat]

theorem runs_addSP (e : Byte) : Runs [0xE8#8, e] 16 (addSP e) :=
  fun _ => ⟨rfl, .add_SP_e e, rfl, fun _ => rfl⟩

end Sys2Proof.Machine
end

section
/-! SUPPORT. A pop after a push (spec/41_load16_stack.md R182), and the operands `qq` read back from a state that was
written (spec/30_encoding.md R97). -/

namespace Sys2Proof

/-- A word whose low half is masked as `AF <- v` masks it (R24). -/
theorem joinBytes_and_highNibble (v : Word) : joinBytes (hiByte v) (loByte v &&& 0xF0#8) = v &&& 0xFFF0#16 :=
  calc joinBytes (hiByte v) (loByte v &&& 0xF0#8) = joinBytes (hiByte v &&& 0xFF#8) (loByte v &&& 0xF0#8) := by
        rw [show (0xFF#8) = BitVec.allOnes 8 from rfl, BitVec.and_allOnes]
    _ = joinBytes (hiByte v) (loByte v) &&& joinBytes 0xFF#8 0xF0#8 := BitVec.and_append.symm
    _ = v &&& 0xFFF0#16 := by rw [joinBytes_halves]; rfl

end Sys2Proof

namespace Sys2Proof.Machine

@[simp] theorem State.took_stackPair (s : State) (n : Nat) (qq : StackPair) :
    (s.took n).stackPair qq = s.stackPair qq := by
  cases qq <;> rfl

@[simp] theorem State.setStackPair_sp (s : State) (qq : StackPair) (v : Word) : (s.setStackPair qq v).sp = s.sp := by
  cases qq <;> rfl

/-- A pair reads back as it was written, AF without its low nibble. -/
theorem State.stackPair_setStackPair (s : State) (qq : StackPair) (v : Word) :
    (s.setStackPair qq v).stackPair qq = if qq = .af then v &&& 0xFFF0#16 else v := by
  cases qq with
  | bc | de | hl => exact joinBytes_halves v
  | af =>
    have hmask : ∀ b : Byte, b &&& 0xF0#8 &&& 0xF0#8 = b &&& 0xF0#8 := fun b => by
      rw [BitVec.and_assoc, BitVec.and_self]
    exact (congrArg _ (hmask _)).trans (joinBytes_and_highNibble v)

/-- On the plain array a pop answers what was pushed and restores SP, from every state that has SP and memory as the
push left them: what runs in between may change the rest. -/
theorem State.pop16_of_push16 {s t : State} {v : Word} (hs : s.params.bus = .plain) (hm : s.mem.wf = true)
    (ht : t.params.bus = .plain) (hsp : t.sp = (s.push16 v).sp) (hmem : t.mem = (s.push16 v).mem) :
    t.pop16 = (v, { t with sp := s.sp }) := by
  have hhigh : s.sp - 2 + 1 = s.sp - 1 := by bv_omega
  have hne : s.sp - 2 ≠ s.sp - 1 := by bv_omega
  have hback : s.sp - 2 + 2 = s.sp := BitVec.sub_add_cancel ..
  have hwf := s.mem.wf_write (s.sp - 1) (hiByte v) hm
  rw [s.push16_plain v hs] at hsp hmem
  rw [t.pop16_plain ht, hsp, hmem, hhigh, hback, Memory.read_write_eq _ hwf, Memory.read_write_ne _ _ _ _ hne,
    Memory.read_write_eq _ hm, joinBytes_halves]

/-- POP after PUSH, on the plain array, only writes the pushed value into its pair and puts SP back. -/
theorem popPair_pushPair (source dest : StackPair) (s : State) (n : Nat) (hs : s.params.bus = .plain)
    (hm : s.mem.wf = true) :
    popPair dest ((pushPair source s).took n) =
      State.setStackPair { (pushPair source s).took n with sp := s.sp } dest (s.stackPair source) := by
  have hpop : ((pushPair source s).took n).pop16 = _ :=
    State.pop16_of_push16 hs hm (by simpa [pushPair] using hs) rfl rfl
  rw [popPair, hpop]

end Sys2Proof.Machine
end

section
/-! The statements about the 16-bit loads, PUSH and POP (spec/41_load16_stack.md), and ADD SP,e
(spec/43_alu16.md R234), which shares its sum with LD HL,SP+e. -/

namespace Sys2Proof.Proofs

open Sys2Proof Sys2Proof.Machine Sys2Proof.Claims

/-- Settles O26: both bytes run their shared operation, and the popped value is the pushed one. -/
theorem pushThenPopRestores : Obligations.PushThenPopRestores := by
  intro p source dest s hs hm
  obtain ⟨-, i, hpush, hexecPush⟩ := runs_pushPair source p
  obtain ⟨-, j, hpop, hexecPop⟩ := runs_popPair dest p
  refine ⟨i, j, _, _, hpush, hpop, hexecPush s, hexecPop _, ?_, ?_⟩
  · simp only [popPair_pushPair source dest s _ hs hm, State.took_sp, State.setStackPair_sp]
  · simp only [popPair_pushPair source dest s _ hs hm, State.took_stackPair, State.stackPair_setStackPair]

/-- Settles O37: the sum and its two carries, as the model has them, are the statement's numbers. -/
theorem stackPointerPlusOffset : Obligations.StackPointerPlusOffset := by
  unfold Obligations.StackPointerPlusOffset
  simp only [← add_sext16_eq_ofInt, ← spPlusHalf_eq, ← spPlusCarry_eq]
  exact fun e => ⟨runs_loadHLFromSPPlus e, runs_addSP e⟩

/-- Settles O36: the two bytes of SP are its halves. -/
theorem loadSixteenBits : Obligations.LoadSixteenBits := by
  unfold Obligations.LoadSixteenBits
  simp only [← loByte_eq_ofNat, ← hiByte_eq_ofNat]
  exact ⟨runs_loadPair, runs_storeSP, runs_loadSPFromHL⟩

/-- Settles O38: PUSH and POP run the shared operations, which are `Push16` and `Pop16` on the pair. -/
theorem pushAndPopPairs : Obligations.PushAndPopPairs :=
  fun qq => ⟨runs_pushPair qq, runs_popPair qq⟩

end Sys2Proof.Proofs
end

section
/-! SUPPORT. The functions of spec/42_alu8.md R191 and the flags of INC and DEC (R216, R218), computed on bytes by the
model, as the statements compute them on natural numbers. -/

namespace Sys2Proof.Machine

open Sys2Proof.Claims

/-- A result byte with its flags, from the numbers of R191. -/
def Flagged.ofNumbers (r : Nat × Bool × Bool × Bool × Bool) : Flagged :=
  { res := BitVec.ofNat 8 r.1, z := r.2.1, n := r.2.2.1, h := r.2.2.2.1, c := r.2.2.2.2 }

/-- A byte whose Zero flag tells whether it is 0, from its number. -/
theorem Flagged.mk_eq_ofNumbers {res : Byte} {k : Nat} (hres : res.toNat = k) (n h c : Bool) :
    Flagged.mk res (res == 0#8) n h c = .ofNumbers (k, decide (k = 0), n, h, c) := by
  subst hres
  have hzero : (res == 0#8) = decide (res.toNat = 0) := by
    rw [beq_eq_decide, decide_eq_decide, ← BitVec.toNat_inj]
    rfl
  rw [Flagged.ofNumbers, BitVec.ofNat_toNat, BitVec.setWidth_eq, hzero]

theorem lowNibble_eq_mod (v : Byte) : lowNibble v = v.toNat % 16 :=
  (BitVec.toNat_and ..).trans (Nat.and_two_pow_sub_one_eq_mod v.toNat 4)

theorem flagByte_toNat (c : Bool) : (flagByte c).toNat = bit c := by
  cases c <;> rfl

theorem bit_le_one (c : Bool) : bit c ≤ 1 := by
  cases c <;> decide

theorem add8_eq (a b : Byte) (c : Nat) : add8 a b = .ofNumbers (alu .add a.toNat b.toNat c) := by
  rw [add8, lowNibble_eq_mod, lowNibble_eq_mod]
  exact Flagged.mk_eq_ofNumbers (BitVec.toNat_add a b) _ _ _

theorem adc8_eq (a b : Byte) (c : Bool) : adc8 a b c = .ofNumbers (alu .adc a.toNat b.toNat (bit c)) := by
  have hres : (a + b + flagByte c).toNat = (a.toNat + b.toNat + bit c) % 256 := by
    rw [BitVec.toNat_add, BitVec.toNat_add, flagByte_toNat, Nat.mod_add_mod]
  rw [adc8, lowNibble_eq_mod, lowNibble_eq_mod]
  exact Flagged.mk_eq_ofNumbers hres _ _ _

/-- The difference is 0 modulo 256 just when the operands are equal. -/
theorem sub8_eq (a b : Byte) (c : Nat) : sub8 a b = .ofNumbers (alu .sub a.toNat b.toNat c) := by
  have ha := a.isLt
  have hb := b.isLt
  have hres : (a - b).toNat = (256 + a.toNat - b.toNat) % 256 := by
    rw [BitVec.toNat_sub]
    omega
  have hzero : decide ((256 + a.toNat - b.toNat) % 256 = 0) = decide (a.toNat = b.toNat) := by
    rw [decide_eq_decide]
    omega
  rw [sub8, lowNibble_eq_mod, lowNibble_eq_mod, Flagged.mk_eq_ofNumbers hres, hzero]
  rfl

theorem sbc8_eq (a b : Byte) (c : Bool) : sbc8 a b c = .ofNumbers (alu .sbc a.toNat b.toNat (bit c)) := by
  have hres : (a - b - flagByte c).toNat = (512 + a.toNat - b.toNat - bit c) % 256 := by
    have hb := b.isLt
    have hc := bit_le_one c
    rw [BitVec.toNat_sub, BitVec.toNat_sub, flagByte_toNat]
    omega
  rw [sbc8, lowNibble_eq_mod, lowNibble_eq_mod]
  exact Flagged.mk_eq_ofNumbers hres _ _ _

/-- The functions of R191 on bytes are those on numbers. -/
theorem aluFunction_eq (op : AluOp) (a b : Byte) (c : Bool) :
    aluFunction op a b c = .ofNumbers (alu op a.toNat b.toNat (bit c)) := by
  cases op with
  | add => exact add8_eq a b _
  | adc => exact adc8_eq a b c
  | sub => exact sub8_eq a b _
  | sbc => exact sbc8_eq a b c
  | and => exact Flagged.mk_eq_ofNumbers (BitVec.toNat_and a b) _ _ _
  | xor => exact Flagged.mk_eq_ofNumbers (BitVec.toNat_xor a b) _ _ _
  | or => exact Flagged.mk_eq_ofNumbers (BitVec.toNat_or a b) _ _ _
  | cp => exact sub8_eq a b (bit c)

/-- An ALU instruction reads its second operand and then has the effect of R192 to R215. -/
theorem aluA_eq (op : AluOp) (src : Source) (s : State) :
    aluA op src s = aluEffect op (s.readSource src).1 (s.readSource src).2 := by
  rw [aluA, aluFunction_eq]
  rfl

theorem inc8_eq (v : Byte) (c : Bool) :
    inc8 v c = { res := v + 1, z := decide (v = 0xFF#8), n := false, h := decide (v.toNat % 16 = 15), c := c } := by
  have hzero : (v + 1 == 0#8) = decide (v = 0xFF#8) := by
    rw [beq_eq_decide, decide_eq_decide]
    bv_omega
  have hhalf : decide (v.toNat % 16 + 1 > 0xF) = decide (v.toNat % 16 = 15) := by
    rw [decide_eq_decide]
    omega
  rw [inc8, lowNibble_eq_mod, hzero, hhalf]

theorem dec8_eq (v : Byte) (c : Bool) :
    dec8 v c = { res := v - 1, z := decide (v = 0x01#8), n := true, h := decide (v.toNat % 16 = 0), c := c } := by
  have hzero : (v - 1 == 0#8) = decide (v = 0x01#8) := by
    rw [beq_eq_decide, decide_eq_decide]
    bv_omega
  rw [dec8, lowNibble_eq_mod, hzero]
  simp only [Nat.lt_one_iff]

/-- INC: one read, one write of the same place, and the flags of R216. -/
theorem increment_eq (t : Target) (s : State) :
    increment t s =
      ((s.readTarget t).2.writeTarget t ((s.readTarget t).1 + 1)).setFlags (decide ((s.readTarget t).1 = 0xFF#8)) false
        (decide ((s.readTarget t).1.toNat % 16 = 15)) (s.readTarget t).2.fC := by
  rw [increment, inc8_eq]

/-- DEC: one read, one write of the same place, and the flags of R218. -/
theorem decrement_eq (t : Target) (s : State) :
    decrement t s =
      ((s.readTarget t).2.writeTarget t ((s.readTarget t).1 - 1)).setFlags (decide ((s.readTarget t).1 = 0x01#8)) true
        (decide ((s.readTarget t).1.toNat % 16 = 0)) (s.readTarget t).2.fC := by
  rw [decrement, dec8_eq]

end Sys2Proof.Machine
end

section
/-! SUPPORT. The bytes of the 8-bit and 16-bit arithmetic, DAA, CPL, SCF and CCF (spec/30_encoding.md R105) as instructions
that run their shared operations. -/

namespace Sys2Proof.Claims

open Sys2Proof.Machine

/-- The same bytes with the next state given by another equation. -/
theorem Runs.congr {bytes : List Byte} {n : Nat} {f g : State → State} (h : Runs bytes n f) (hfg : ∀ s, f s = g s) :
    Runs bytes n g :=
  funext hfg ▸ h

end Sys2Proof.Claims

namespace Sys2Proof.Machine

open Sys2Proof.Claims

theorem runs_aluReg (op : AluOp) (r : Reg) : Runs [0b10#2 ++ aluCode op ++ code r] 4 (aluA op (.reg r)) := by
  cases op <;> cases r <;> exact fun _ => ⟨rfl, _, rfl, fun _ => rfl⟩

theorem runs_aluAtHL (op : AluOp) : Runs [0b10#2 ++ aluCode op ++ 0b110#3] 8 (aluA op .atHL) := by
  cases op <;> exact fun _ => ⟨rfl, _, rfl, fun _ => rfl⟩

theorem runs_aluImm (op : AluOp) (n : Byte) : Runs [0b11#2 ++ aluCode op ++ 0b110#3, n] 8 (aluA op (.imm n)) := by
  cases op <;> exact fun _ => ⟨rfl, _, rfl, fun _ => rfl⟩

theorem runs_incrementReg (r : Reg) : Runs [0b00#2 ++ code r ++ 0b100#3] 4 (increment (.reg r)) := by
  cases r <;> exact fun _ => ⟨rfl, _, rfl, fun _ => rfl⟩

theorem runs_decrementReg (r : Reg) : Runs [0b00#2 ++ code r ++ 0b101#3] 4 (decrement (.reg r)) := by
  cases r <;> exact fun _ => ⟨rfl, _, rfl, fun _ => rfl⟩

theorem runs_incrementAtHL : Runs [0x34#8] 12 (increment .atHL) :=
  fun _ => ⟨rfl, .inc_atHL, rfl, fun _ => rfl⟩

theorem runs_decrementAtHL : Runs [0x35#8] 12 (decrement .atHL) :=
  fun _ => ⟨rfl, .dec_atHL, rfl, fun _ => rfl⟩

theorem runs_addHL (rr : Pair) : Runs [0b00#2 ++ pairCode rr ++ 0b1001#4] 8 (addHL rr) := by
  cases rr <;> exact fun _ => ⟨rfl, _, rfl, fun _ => rfl⟩

theorem runs_incrementPair (rr : Pair) : Runs [0b00#2 ++ pairCode rr ++ 0b0011#4] 8 (movePair rr 1) := by
  cases rr <;> exact fun _ => ⟨rfl, _, rfl, fun _ => rfl⟩

theorem runs_decrementPair (rr : Pair) : Runs [0b00#2 ++ pairCode rr ++ 0b1011#4] 8 (movePair rr (-1)) := by
  cases rr <;> exact fun _ => ⟨rfl, _, rfl, fun _ => rfl⟩

theorem runs_decimalAdjust : Runs [0x27#8] 4 decimalAdjust :=
  fun _ => ⟨rfl, .daa, rfl, fun _ => rfl⟩

theorem runs_complementA : Runs [0x2F#8] 4 complementA :=
  fun _ => ⟨rfl, .cpl, rfl, fun _ => rfl⟩

theorem runs_setCarry : Runs [0x37#8] 4 fun s => s.setFlags s.fZ false false true :=
  fun _ => ⟨rfl, .scf, rfl, fun _ => rfl⟩

theorem runs_complementCarry : Runs [0x3F#8] 4 fun s => s.setFlags s.fZ false false (!s.fC) :=
  fun _ => ⟨rfl, .ccf, rfl, fun _ => rfl⟩

end Sys2Proof.Machine
end

section
/-! SUPPORT. The frames of the arithmetic (spec/42_alu8.md R190, spec/43_alu16.md R230, spec/46_misc.md R316 to R319), one
for each shared operation. -/

namespace Sys2Proof.Claims

open Sys2Proof.Machine

variable {w : MayWrite} {s t : State}

/-- Two bits agree outside a mask when the mask has the place or they are equal. -/
theorem and_not_congr {old new mask : Bool} (h : mask = true ∨ new = old) : (new && !mask) = (old && !mask) := by
  rcases h with rfl | rfl
  · simp
  · rfl

/-- The flags may be written when each one that may not change is given its own value (R25). -/
theorem Keeps.setFlags (h : Keeps w s t) (hw : w.flags ≠ 0x00#8) {z n hc cy : Bool}
    (hz : w.flags.getLsbD 7 = true ∨ z = t.fZ := by simp) (hn : w.flags.getLsbD 6 = true ∨ n = t.fN := by simp)
    (hhc : w.flags.getLsbD 5 = true ∨ hc = t.fH := by simp) (hcy : w.flags.getLsbD 4 = true ∨ cy = t.fC := by simp) :
    Keeps w s (t.setFlags z n hc cy) := by
  have hmask : ∀ i < 8, (0xF0#8).getLsbD i = decide (4 ≤ i) := by decide
  refine h.setF hw (BitVec.eq_of_getLsbD_eq fun i hi => ?_)
  by_cases hlow : i < 4
  · simp [hmask i hi, Nat.not_le.mpr hlow]
  · simp only [BitVec.getLsbD_and, BitVec.getLsbD_not, hmask i hi, hi, Nat.not_lt.mp hlow, decide_true, Bool.true_and]
    obtain rfl | rfl | rfl | rfl : i = 4 ∨ i = 5 ∨ i = 6 ∨ i = 7 := by omega
    · exact and_not_congr (hcy.imp_right (packFlags_c ..).trans)
    · exact and_not_congr (hhc.imp_right (packFlags_h ..).trans)
    · exact and_not_congr (hn.imp_right (packFlags_n ..).trans)
    · exact and_not_congr (hz.imp_right (packFlags_z ..).trans)

theorem Keeps.readSource (h : Keeps w s t) (src : Source) : Keeps w s (t.readSource src).2 := by
  cases src with
  | reg r => exact h
  | atHL => exact h.busRead t.hl
  | imm n => exact h

end Sys2Proof.Claims

namespace Sys2Proof.Machine

open Sys2Proof.Claims

/-- What a write of a 3-bit operand and of the flags under a mask may write (R96). -/
def targetFrame (flags : Byte) : Target → MayWrite
  | .reg r => { regs := [r], flags := flags }
  | .atHL => { flags := flags, mem := fun s => [s.hl] }

@[simp] theorem targetFrame_flags (flags : Byte) (t : Target) : (targetFrame flags t).flags = flags := by
  cases t <;> rfl

/-- An operand that is read and written back. -/
theorem writeTarget_readTarget_keeps (flags : Byte) (t : Target) (v : Byte) (s : State) :
    Keeps (targetFrame flags t) s ((s.readTarget t).2.writeTarget t v) := by
  cases t with
  | reg r => exact (Keeps.refl _ s).setReg (by simp [targetFrame]) v
  | atHL => exact ((Keeps.refl _ s).busRead s.hl).busWrite (by simp [targetFrame, State.readTarget]) v

@[simp] theorem State.writeTarget_f (s : State) (t : Target) (v : Byte) : (s.writeTarget t v).f = s.f := by
  cases t with
  | reg r => exact s.setReg_f r v
  | atHL => exact s.busWrite_f s.hl v

/-- CP writes flags alone (R213 to R215). -/
theorem aluA_keeps (op : AluOp) (src : Source) (s : State) :
    Keeps { regs := if op = .cp then [] else [.a], flags := 0xF0#8 } s (aluA op src s) := by
  rw [aluA]
  refine Keeps.setFlags ?_ (by simp)
  split
  · exact (Keeps.refl _ s).readSource src
  · exact ((Keeps.refl _ s).readSource src).setReg (by simp) _

theorem increment_keeps (t : Target) (s : State) : Keeps (targetFrame 0xE0#8 t) s (increment t s) :=
  (writeTarget_readTarget_keeps _ t _ s).setFlags (by simp) (hcy := .inr (by simp [inc8, State.fC]))

theorem decrement_keeps (t : Target) (s : State) : Keeps (targetFrame 0xE0#8 t) s (decrement t s) :=
  (writeTarget_readTarget_keeps _ t _ s).setFlags (by simp) (hcy := .inr (by simp [dec8, State.fC]))

theorem addHL_keeps (rr : Pair) (s : State) : Keeps { regs := [.h, .l], flags := 0x70#8 } s (addHL rr s) :=
  ((Keeps.refl _ s).setHL (by simp) (by simp) _).setFlags (by simp) (hz := .inr rfl)

theorem addSP_keeps (e : Byte) (s : State) : Keeps { flags := 0xF0#8, sp := true } s (addSP e s) :=
  ((Keeps.refl _ s).setSP rfl _).setFlags (by simp)

theorem decimalAdjust_keeps (s : State) : Keeps { regs := [.a], flags := 0xB0#8 } s (decimalAdjust s) :=
  ((Keeps.refl _ s).setReg (by simp) _).setFlags (by simp) (hn := .inr rfl)

theorem complementA_keeps (s : State) : Keeps { regs := [.a], flags := 0x60#8 } s (complementA s) :=
  ((Keeps.refl _ s).setReg (by simp) _).setFlags (by simp) (hz := .inr rfl) (hcy := .inr rfl)

/-- SCF and CCF. -/
theorem setFlags_own_zero_keeps (n hc cy : Bool) (s : State) :
    Keeps { flags := 0x70#8 } s (s.setFlags s.fZ n hc cy) :=
  (Keeps.refl _ s).setFlags (by simp)

end Sys2Proof.Machine
end

section
/-! The statements about the 8-bit arithmetic (spec/42_alu8.md), and the frame of all arithmetic, DAA, CPL, SCF and CCF. -/

namespace Sys2Proof.Proofs

open Sys2Proof Sys2Proof.Machine Sys2Proof.Claims

/-- Settles O39: the 56 instructions run the ALU operation on their register. -/
theorem aluWithRegister : Obligations.AluWithRegister :=
  fun op r => (runs_aluReg op r).congr (aluA_eq op (.reg r))

/-- Settles O40: the second operand is the byte read at HL. -/
theorem aluWithMemory : Obligations.AluWithMemory :=
  fun op => (runs_aluAtHL op).congr (aluA_eq op .atHL)

/-- Settles O41: the second operand is the byte in the instruction. -/
theorem aluWithImmediate : Obligations.AluWithImmediate :=
  fun op n => (runs_aluImm op n).congr (aluA_eq op (.imm n))

/-- Settles O42: one operation for INC and one for DEC, with the operand in a register or at HL. -/
theorem incrementAndDecrement : Obligations.IncrementAndDecrement := by
  refine ⟨fun r => ⟨?_, ?_⟩, ?_, ?_⟩
  · exact (runs_incrementReg r).congr (increment_eq (.reg r))
  · exact (runs_decrementReg r).congr (decrement_eq (.reg r))
  · exact runs_incrementAtHL.congr (increment_eq .atHL)
  · exact runs_decrementAtHL.congr (decrement_eq .atHL)

/-- Settles O58: each form runs a shared operation, and the frame is that operation's. -/
theorem frameOfArithmetic : Obligations.FrameOfArithmetic := by
  refine ⟨?_, ?_, ?_, ?_, ?_, ?_, ?_, ?_, ?_, ?_, ?_, ?_, ?_⟩
  · exact fun op r => (runs_aluReg op r).frameOf (aluA_keeps op (.reg r))
  · exact fun op => (runs_aluAtHL op).frameOf (aluA_keeps op .atHL)
  · exact fun op n => (runs_aluImm op n).frameOf (aluA_keeps op (.imm n))
  · exact fun r => ⟨(runs_incrementReg r).frameOf (increment_keeps (.reg r)),
      (runs_decrementReg r).frameOf (decrement_keeps (.reg r))⟩
  · exact runs_incrementAtHL.frameOf (increment_keeps .atHL)
  · exact runs_decrementAtHL.frameOf (decrement_keeps .atHL)
  · exact fun rr => (runs_addHL rr).frameOf (addHL_keeps rr)
  · intro q
    cases q with
    | false =>
      have hframe := fun rr => (runs_incrementPair rr).frameOf fun s => setPair_keeps rr (s.pair rr + 1) s
      exact ⟨hframe .bc, hframe .de, hframe .hl, hframe .sp⟩
    | true =>
      have hframe := fun rr => (runs_decrementPair rr).frameOf fun s => setPair_keeps rr (s.pair rr + -1) s
      exact ⟨hframe .bc, hframe .de, hframe .hl, hframe .sp⟩
  · exact fun e => (runs_addSP e).frameOf (addSP_keeps e)
  · exact runs_decimalAdjust.frameOf decimalAdjust_keeps
  · exact runs_complementA.frameOf complementA_keeps
  · exact runs_setCarry.frameOf (setFlags_own_zero_keeps false false true)
  · exact runs_complementCarry.frameOf fun s => setFlags_own_zero_keeps false false (!s.fC) s

end Sys2Proof.Proofs
end

section
/-! SUPPORT. The carries and the flag rule of ADD HL,rr, and DEC rr, in the terms of spec/43_alu16.md R231 and R233. -/

namespace Sys2Proof.Machine

/-- The carry out of bit 11, from the low twelve bits as remainders. -/
theorem add16Half_eq (a b : Word) : add16Half a b = decide (a.toNat % 4096 + b.toNat % 4096 > 4095) := by
  have hlow : ∀ v : Word, (v &&& 0x0FFF#16).toNat = v.toNat % 4096 := fun v =>
    (BitVec.toNat_and ..).trans (Nat.and_two_pow_sub_one_eq_mod v.toNat 12)
  rw [add16Half, hlow, hlow]

/-- ADD HL,rr with its flags as R231 has them. -/
theorem addHL_eq (rr : Pair) (s : State) :
    addHL rr s =
      (s.setHL (s.hl + s.pair rr)).setFlags s.fZ (if s.params.addHlClearsN then false else s.fN)
        (decide (s.hl.toNat % 4096 + (s.pair rr).toNat % 4096 > 4095))
        (decide (s.hl.toNat + (s.pair rr).toNat > 65535)) := by
  have hsubtract : (s.fN && !s.params.addHlClearsN) = if s.params.addHlClearsN then false else s.fN := by
    cases s.params.addHlClearsN with
    | false => exact Bool.and_true _
    | true => exact Bool.and_false _
  rw [addHL, hsubtract, add16Half_eq, add16Carry]

/-- A pair moved by the step -1 is one less. -/
theorem movePair_neg_one (rr : Pair) (s : State) : movePair rr (-1) s = s.setPair rr (s.pair rr - 1) := by
  rw [movePair, BitVec.sub_eq_add_neg]

end Sys2Proof.Machine
end

section
/-! The statement about the 16-bit arithmetic (spec/43_alu16.md). -/

namespace Sys2Proof.Proofs

open Sys2Proof Sys2Proof.Machine Sys2Proof.Claims

/-- Settles O43: the twelve instructions run the shared operation on their pair; INC rr is `movePair` with the step 1. -/
theorem sixteenBitArithmetic : Obligations.SixteenBitArithmetic :=
  fun rr => ⟨(runs_addHL rr).congr (addHL_eq rr), runs_incrementPair rr,
    (runs_decrementPair rr).congr (movePair_neg_one rr)⟩

end Sys2Proof.Proofs
end

section
/-! SUPPORT. The one-bit functions of spec/44_rotate_shift_bitop.md R245 and the tested bit of R262, computed on bytes by
the model, as the statements compute them on natural numbers; and the operations that use them, in the statements'
order of writes. -/

namespace Sys2Proof.Machine

open Sys2Proof.Claims

/-- A bit of a byte, from the byte's number. -/
theorem getLsbD_eq_decide (v : Byte) (k : Nat) : v.getLsbD k = decide (v.toNat / 2 ^ k % 2 = 1) :=
  Nat.testBit_eq_decide_div_mod_eq

theorem getLsbD_seven_eq (v : Byte) : v.getLsbD 7 = decide (v.toNat / 128 = 1) := by
  have hv := v.isLt
  rw [getLsbD_eq_decide, decide_eq_decide]
  omega

theorem getLsbD_zero_eq (v : Byte) : v.getLsbD 0 = decide (v.toNat % 2 = 1) := by
  rw [getLsbD_eq_decide, Nat.pow_zero, Nat.div_one]

theorem shiftLeft_toNat_eq (v : Byte) (k : Nat) : (v <<< k).toNat = v.toNat * 2 ^ k % 256 := by
  rw [BitVec.toNat_shiftLeft, Nat.shiftLeft_eq]

theorem ushiftRight_toNat_eq (v : Byte) (k : Nat) : (v >>> k).toNat = v.toNat / 2 ^ k := by
  rw [BitVec.toNat_ushiftRight, Nat.shiftRight_eq_div_pow]

/-- Bit 7 alone, as SRA keeps it (R256). -/
theorem and_signBit_toNat (v : Byte) : (v &&& 0x80#8).toNat = v.toNat / 128 * 128 := by
  have hv := v.isLt
  have hbit : (v &&& 0x80#8) = if v.getLsbD 7 then 0x80#8 else 0#8 := BitVec.and_twoPow v 7
  rw [hbit, getLsbD_seven_eq]
  by_cases hset : v.toNat / 128 = 1
  · simp [hset]
  · rw [show v.toNat / 128 = 0 by omega]
    rfl

/-- Two bytes that share no bit, one from bit `k` on and one below it, are joined as by a sum. -/
theorem or_toNat_eq_add {high low : Byte} (k : Nat) (hhigh : 2 ^ k ∣ high.toNat) (hlow : low.toNat < 2 ^ k) :
    (high ||| low).toNat = high.toNat + low.toNat := by
  obtain ⟨q, hq⟩ := hhigh
  rw [BitVec.toNat_or, hq, Nat.two_pow_add_eq_or_of_lt hlow]

/-- The result of each function; where two parts are joined, the one that begins at bit `k` stands first. -/
theorem rotFunction_res_toNat (op : RotOp) (v : Byte) (cin : Bool) :
    (rotFunction op v cin).1.toNat = (rot op v.toNat (bit cin)).1 := by
  have hv := v.isLt
  have hc := bit_le_one cin
  have hnibble : (v &&& 0x0F#8).toNat = v.toNat % 16 := lowNibble_eq_mod v
  cases op <;> simp only [rotFunction, rot]
  case rlc => rw [or_toNat_eq_add 1] <;> simp only [shiftLeft_toNat_eq, ushiftRight_toNat_eq] <;> omega
  case rrc =>
    rw [BitVec.or_comm, or_toNat_eq_add 7] <;> simp only [shiftLeft_toNat_eq, ushiftRight_toNat_eq] <;> omega
  case rl => rw [or_toNat_eq_add 1] <;> simp only [shiftLeft_toNat_eq, flagByte_toNat] <;> omega
  case rr =>
    rw [BitVec.or_comm, or_toNat_eq_add 7] <;>
      simp only [shiftLeft_toNat_eq, ushiftRight_toNat_eq, flagByte_toNat] <;> omega
  case sla => exact shiftLeft_toNat_eq v 1
  case sra => rw [BitVec.or_comm, or_toNat_eq_add 7] <;> simp only [ushiftRight_toNat_eq, and_signBit_toNat] <;> omega
  case swap => rw [or_toNat_eq_add 4] <;> simp only [shiftLeft_toNat_eq, ushiftRight_toNat_eq, hnibble] <;> omega
  case srl => exact ushiftRight_toNat_eq v 1

/-- The bit shifted out: bit 7 to the left, bit 0 to the right, none for SWAP. -/
theorem rotFunction_out (op : RotOp) (v : Byte) (cin : Bool) :
    (rotFunction op v cin).2 = decide ((rot op v.toNat (bit cin)).2 = 1) := by
  cases op with
  | rlc | rl | sla => exact getLsbD_seven_eq v
  | rrc | rr | sra | srl => exact getLsbD_zero_eq v
  | swap => rfl

theorem rotFunction_res (op : RotOp) (v : Byte) (s : State) : (rotFunction op v s.fC).1 = rotResult op v s := by
  rw [rotResult, ← rotFunction_res_toNat, BitVec.ofNat_toNat, BitVec.setWidth_eq]

theorem rotFunction_zero (op : RotOp) (v : Byte) (cin : Bool) :
    ((rotFunction op v cin).1 == 0#8) = decide ((rot op v.toNat (bit cin)).1 = 0) := by
  rw [beq_eq_decide, decide_eq_decide, ← BitVec.toNat_inj, rotFunction_res_toNat]
  rfl

/-- F and a 3-bit operand are written in either order. -/
theorem State.setFlags_writeTarget (s : State) (t : Target) (v : Byte) (z n h c : Bool) :
    (s.setFlags z n h c).writeTarget t v = (s.writeTarget t v).setFlags z n h c := by
  cases t with
  | reg r => cases r <;> rfl
  | atHL =>
    simp only [State.writeTarget, State.busWrite, State.setFlags_params]
    cases s.params.bus <;> rfl

/-- An extended rotate or shift reads its operand and then writes flags and result as R245 has them. -/
theorem rotate_eq (op : RotOp) (t : Target) (s : State) :
    rotate op t s = (rotFlags op (s.readTarget t).1 (s.readTarget t).2).writeTarget t
      (rotResult op (s.readTarget t).1 (s.readTarget t).2) := by
  rw [rotFlags, State.setFlags_writeTarget, rotate, rotFunction_res, rotFunction_out, ← rotFunction_zero,
    rotFunction_res]

theorem rotateA_eq (op : RotOp) (s : State) :
    rotateA op s = (s.setReg .a (rotResult op s.a s)).setFlags false false false
      (decide ((rot op s.a.toNat (bit s.fC)).2 = 1)) := by
  rw [rotateA, rotFunction_res, rotFunction_out]

/-- BIT reads its operand and gives Zero the complement of the bit (R262, R263). -/
theorem testBit_eq (b : Nat) (t : Target) (s : State) :
    testBit b t s = (s.readTarget t).2.setFlags (decide ((s.readTarget t).1.toNat / 2 ^ b % 2 = 0)) false true
      (s.readTarget t).2.fC := by
  simp only [testBit, getLsbD_eq_decide, ← decide_not, Nat.mod_two_not_eq_one]

end Sys2Proof.Machine
end

section
/-! SUPPORT. The bytes of the rotates, shifts and bit instructions (spec/30_encoding.md R105, R106) as instructions that
run their shared operations; an extended one is found by the fields of its second byte. -/

namespace Sys2Proof.Machine

open Sys2Proof.Claims

/-- The 3-bit code of an operand (R96). -/
def targetCode : Target → BitVec 3
  | .reg r => code r
  | .atHL => 0b110#3

@[simp] theorem targetOfCode_targetCode (t : Target) : targetOfCode (targetCode t) = t := by
  cases t with
  | reg r => cases r <;> rfl
  | atHL => rfl

@[simp] theorem rotOfCode_rotCode (op : RotOp) : rotOfCode (rotCode op) = op := by
  cases op <;> rfl

/-- The cost of an extended instruction by its fields (R400). -/
theorem standardExtended_fields (x : BitVec 2) (y : BitVec 3) (t : Target) :
    standardExtended (x ++ y ++ targetCode t) = if t ≠ .atHL then 8 else if x = 1#2 then 12 else 16 := by
  rw [standardExtended, fieldX_fields, fieldZ_fields]
  cases t with
  | reg r => cases r <;> rfl
  | atHL => rfl

/-- 0xCB and a second byte run the action of that byte's extended entry (R103). -/
theorem runs_extendedAction (x : BitVec 2) (y : BitVec 3) (t : Target) :
    Runs [0xCB#8, x ++ y ++ targetCode t] (if t ≠ .atHL then 8 else if x = 1#2 then 12 else 16)
      (extendedAction (x ++ y ++ targetCode t)) :=
  fun p => ⟨(CycleTable.standard_extendedOf _).trans (standardExtended_fields x y t), _, decode_extended p _,
    exec_extendedOf _⟩

theorem runs_rotate (op : RotOp) (t : Target) :
    Runs [0xCB#8, 0b00#2 ++ rotCode op ++ targetCode t] (if t ≠ .atHL then 8 else 16) (rotate op t) :=
  (runs_extendedAction 0b00#2 (rotCode op) t).congr fun s => by simp [extendedAction]

theorem runs_testBit (b : BitVec 3) (t : Target) :
    Runs [0xCB#8, 0b01#2 ++ b ++ targetCode t] (if t ≠ .atHL then 8 else 12) (testBit b.toNat t) :=
  (runs_extendedAction 0b01#2 b t).congr fun s => by simp [extendedAction]

theorem runs_resetBit (b : BitVec 3) (t : Target) :
    Runs [0xCB#8, 0b10#2 ++ b ++ targetCode t] (if t ≠ .atHL then 8 else 16) (resetBit b.toNat t) :=
  (runs_extendedAction 0b10#2 b t).congr fun s => by simp [extendedAction]

theorem runs_setBit (b : BitVec 3) (t : Target) :
    Runs [0xCB#8, 0b11#2 ++ b ++ targetCode t] (if t ≠ .atHL then 8 else 16) (setBit b.toNat t) :=
  (runs_extendedAction 0b11#2 b t).congr fun s => by simp [extendedAction]

/-- The bytes of `RLCA`, `RLA`, `RRCA` and `RRA`, each with its function (R241 to R244). -/
def accumulatorRotateBytes : List (Byte × RotOp) :=
  [(0x07#8, .rlc), (0x17#8, .rl), (0x0F#8, .rrc), (0x1F#8, .rr)]

theorem runs_rotateA : ∀ x ∈ accumulatorRotateBytes, Runs [x.1] 4 (rotateA x.2) := by
  intro x hx
  fin_cases hx <;> exact fun _ => ⟨rfl, _, rfl, fun _ => rfl⟩

end Sys2Proof.Machine
end

section
/-! SUPPORT. The frames of the rotates, shifts and bit instructions (spec/44_rotate_shift_bitop.md R240), one for each
shared operation. -/

namespace Sys2Proof.Claims

open Sys2Proof.Machine

theorem Keeps.readTarget {w : MayWrite} {s t : State} (h : Keeps w s t) (operand : Target) :
    Keeps w s (t.readTarget operand).2 := by
  cases operand with
  | reg r => exact h
  | atHL => exact h.busRead t.hl

end Sys2Proof.Claims

namespace Sys2Proof.Machine

open Sys2Proof.Claims

theorem rotateA_keeps (op : RotOp) (s : State) : Keeps { regs := [.a], flags := 0xF0#8 } s (rotateA op s) :=
  ((Keeps.refl _ s).setReg (by simp) _).setFlags (by simp)

theorem rotate_keeps (op : RotOp) (t : Target) (s : State) : Keeps (targetFrame 0xF0#8 t) s (rotate op t s) :=
  (writeTarget_readTarget_keeps _ t _ s).setFlags (by simp)

theorem testBit_keeps (b : Nat) (t : Target) (s : State) : Keeps { flags := 0xE0#8 } s (testBit b t s) :=
  ((Keeps.refl _ s).readTarget t).setFlags (by simp)

theorem resetBit_keeps (b : Nat) (t : Target) (s : State) : Keeps (targetFrame 0x00#8 t) s (resetBit b t s) :=
  writeTarget_readTarget_keeps _ t _ s

theorem setBit_keeps (b : Nat) (t : Target) (s : State) : Keeps (targetFrame 0x00#8 t) s (setBit b t s) :=
  writeTarget_readTarget_keeps _ t _ s

end Sys2Proof.Machine
end

section
/-! The statements about the rotates, shifts and bit instructions (spec/44_rotate_shift_bitop.md). -/

namespace Sys2Proof.Proofs

open Sys2Proof Sys2Proof.Machine Sys2Proof.Claims

/-- Settles O45: the 56 instructions run the rotate or shift on their register. -/
theorem rotateRegister : Obligations.RotateRegister :=
  fun op r => (runs_rotate op (.reg r)).congr (rotate_eq op (.reg r))

/-- Settles O46: the operand is the byte read at HL, and HL is where the result goes. -/
theorem rotateMemory : Obligations.RotateMemory :=
  fun op => (runs_rotate op .atHL).congr (rotate_eq op .atHL)

/-- Settles O47: one operation, with the operand in a register or at HL. -/
theorem bitTest : Obligations.BitTest :=
  fun b => ⟨fun r => (runs_testBit b (.reg r)).congr (testBit_eq b.toNat (.reg r)),
    (runs_testBit b .atHL).congr (testBit_eq b.toNat .atHL)⟩

/-- Settles O48: RES and SET read their operand and write it back, and so have the statement's effect as they stand. -/
theorem bitResetAndSet : Obligations.BitResetAndSet :=
  fun b => ⟨fun r => ⟨runs_resetBit b (.reg r), runs_setBit b (.reg r)⟩,
    runs_resetBit b .atHL, runs_setBit b .atHL⟩

/-- Settles O44: the four bytes run the rotate of A. -/
theorem accumulatorRotates : Obligations.AccumulatorRotates :=
  fun x hx => (runs_rotateA x hx).congr (rotateA_eq x.2)

/-- Settles O59: each form runs a shared operation, and the frame is that operation's. -/
theorem frameOfRotatesAndBits : Obligations.FrameOfRotatesAndBits := by
  refine ⟨?_, ?_, ?_, fun b => ⟨fun r => ⟨?_, ?_, ?_⟩, ?_, ?_, ?_⟩⟩
  · exact List.forall_mem_map (f := Prod.fst) (l := accumulatorRotateBytes) |>.mpr fun x hx =>
      (runs_rotateA x hx).frameOf (rotateA_keeps x.2)
  · exact fun op r => (runs_rotate op (.reg r)).frameOf (rotate_keeps op (.reg r))
  · exact fun op => (runs_rotate op .atHL).frameOf (rotate_keeps op .atHL)
  · exact (runs_testBit b (.reg r)).frameOf (testBit_keeps b.toNat (.reg r))
  · exact (runs_resetBit b (.reg r)).frameOf (resetBit_keeps b.toNat (.reg r))
  · exact (runs_setBit b (.reg r)).frameOf (setBit_keeps b.toNat (.reg r))
  · exact (runs_testBit b .atHL).frameOf (testBit_keeps b.toNat .atHL)
  · exact (runs_resetBit b .atHL).frameOf (resetBit_keeps b.toNat .atHL)
  · exact (runs_setBit b .atHL).frameOf (setBit_keeps b.toNat .atHL)

end Sys2Proof.Proofs
end

section
/-! SUPPORT. The bytes of the jumps, calls, restarts and returns (spec/45_jump_call_return.md R281 to R300), of NOP, HALT,
DI and EI (spec/46_misc.md R310 to R314) and of the Invalid entries (spec/47_invalid.md R330) as instructions that run
their shared operations. -/

namespace Sys2Proof.Machine

open Sys2Proof.Claims

theorem runs_jump (lo hi : Byte) : Runs [0xC3#8, lo, hi] 16 fun s => s.jump (hi ++ lo) :=
  fun _ => ⟨rfl, .jp_nn (hi ++ lo), rfl, fun _ => rfl⟩

theorem runsIf_jump (cc : Cond) (lo hi : Byte) :
    RunsIf cc [0b110#3 ++ condCode cc ++ 0b010#3, lo, hi] 16 12 fun s => s.jump (hi ++ lo) := by
  cases cc <;> exact ⟨rfl, rfl, fun _ => ⟨_, rfl, fun _ => rfl⟩⟩

theorem runs_jumpHL : Runs [0xE9#8] 4 fun s => s.jump s.hl :=
  fun _ => ⟨rfl, .jp_HL, rfl, fun _ => rfl⟩

theorem runs_jumpRelative (e : Byte) : Runs [0x18#8, e] 12 fun s => s.jump (s.pc + sext16 e) :=
  fun _ => ⟨rfl, .jr_e e, rfl, fun _ => rfl⟩

theorem runsIf_jumpRelative (cc : Cond) (e : Byte) :
    RunsIf cc [0b001#3 ++ condCode cc ++ 0b000#3, e] 12 8 fun s => s.jump (s.pc + sext16 e) := by
  cases cc <;> exact ⟨rfl, rfl, fun _ => ⟨_, rfl, fun _ => rfl⟩⟩

theorem runs_call (lo hi : Byte) : Runs [0xCD#8, lo, hi] 24 (callTo (hi ++ lo)) :=
  fun _ => ⟨rfl, .call_nn (hi ++ lo), rfl, fun _ => rfl⟩

theorem runsIf_call (cc : Cond) (lo hi : Byte) :
    RunsIf cc [0b110#3 ++ condCode cc ++ 0b100#3, lo, hi] 24 12 (callTo (hi ++ lo)) := by
  cases cc <;> exact ⟨rfl, rfl, fun _ => ⟨_, rfl, fun _ => rfl⟩⟩

theorem runs_return : Runs [0xC9#8] 16 returnTo :=
  fun _ => ⟨rfl, .ret, rfl, fun _ => rfl⟩

theorem runsIf_return (cc : Cond) : RunsIf cc [0b110#3 ++ condCode cc ++ 0b000#3] 20 8 returnTo := by
  cases cc <;> exact ⟨rfl, rfl, fun _ => ⟨_, rfl, fun _ => rfl⟩⟩

theorem runs_returnFromInterrupt : Runs [0xD9#8] 16 State.returnFromInterrupt :=
  fun _ => ⟨rfl, .reti, rfl, fun _ => rfl⟩

/-- The eight restarts, one evaluation each; the target is 8 times the field (R300). -/
theorem runs_restart (y : BitVec 3) :
    Runs [0b11#2 ++ y ++ 0b111#3] 16 (callTo (BitVec.ofNat 16 (8 * y.toNat))) := by
  have hfield : ∀ k < 8, Runs [0b11#2 ++ BitVec.ofNat 3 k ++ 0b111#3] 16
      (callTo (BitVec.ofNat 16 (8 * (BitVec.ofNat 3 k).toNat))) := by
    intro k hk
    interval_cases k <;> exact fun _ => ⟨rfl, _, rfl, fun _ => rfl⟩
  simpa only [BitVec.ofNat_toNat, BitVec.setWidth_eq] using hfield y.toNat y.isLt

theorem runs_nop : Runs [0x00#8] 4 fun s => s :=
  fun _ => ⟨rfl, .nop, rfl, fun _ => rfl⟩

theorem runs_halt : Runs [0x76#8] 4 fun s => { s with mode := .halted } :=
  fun _ => ⟨rfl, .halt, rfl, fun _ => rfl⟩

theorem runs_disableInterrupts : Runs [0xF3#8] 4 fun s => { s with ime := false, imePending := false } :=
  fun _ => ⟨rfl, .di, rfl, fun _ => rfl⟩

theorem runs_enableInterrupts : Runs [0xFB#8] 4 fun s => { s with imePending := true } :=
  fun _ => ⟨rfl, .ei, rfl, fun _ => rfl⟩

/-- The eleven Invalid bytes, one evaluation each: the exception records the byte and where it was fetched (R330). -/
theorem answers_invalid (op : Byte) (hop : op ∈ invalidBytes) (p : Params) :
    Answers p [op] fun s => s.raiseIllegalOpcode op (s.pc - 1) := by
  unfold invalidBytes at hop
  fin_cases hop <;> exact ⟨_, rfl, fun _ => rfl⟩

/-- RET after a call, on the plain array, puts PC and SP back and leaves the rest as the call left it, whatever the call
reports in between (R301). -/
theorem returnTo_callTo (target : Word) (s : State) (n : Nat) (hs : s.params.bus = .plain) (hm : s.mem.wf = true) :
    returnTo ((callTo target s).took n) = { (callTo target s).took n with sp := s.sp, pc := s.pc } := by
  have hpop : ((callTo target s).took n).pop16 = _ :=
    State.pop16_of_push16 hs hm (by simpa [callTo] using hs) rfl rfl
  simp only [returnTo, hpop]
  rfl

end Sys2Proof.Machine
end

section
/-! SUPPORT. The frames of the jumps, calls, returns and the control of the core (spec/45_jump_call_return.md R280,
spec/46_misc.md R310 to R314, spec/47_invalid.md R330), one for each shared operation. -/

namespace Sys2Proof.Claims

open Sys2Proof.Machine

variable {w : MayWrite} {s t : State}

theorem Keeps.jump (h : Keeps w s t) (hw : w.pc = true) (target : Word) : Keeps w s (t.jump target) :=
  { h with
    regs := fun q hq => (t.jump_reg target q).trans (h.regs q hq)
    pc := fun hpc => absurd hpc (by simp [hw]) }

theorem Keeps.setIme (h : Keeps w s t) (hw : w.ime = true) (ime pending : Bool) :
    Keeps w s { t with ime := ime, imePending := pending } :=
  { h with
    regs := fun q hq =>
      (show State.reg { t with ime := ime, imePending := pending } q = t.reg q by cases q <;> rfl).trans (h.regs q hq)
    ime := fun hime => absurd hime (by simp [hw]) }

theorem Keeps.setMode (h : Keeps w s t) (hw : w.mode = true) (m : Mode) : Keeps w s { t with mode := m } :=
  { h with
    regs := fun q hq => (show State.reg { t with mode := m } q = t.reg q by cases q <;> rfl).trans (h.regs q hq)
    mode := fun hmode => absurd hmode (by simp [hw]) }

theorem Keeps.raiseIllegalOpcode (h : Keeps w s t) (hw : w.fault = true) (op : Byte) (addr : Word) :
    Keeps w s (t.raiseIllegalOpcode op addr) :=
  { h with
    regs := fun q hq => (t.raiseIllegalOpcode_reg op addr q).trans (h.regs q hq)
    fault := fun hfault => absurd hfault (by simp [hw]) }

theorem Keeps.callTo (h : Keeps w s t) (hpc : w.pc = true) (hsp : w.sp = true) (hhigh : t.sp - 1 ∈ w.mem s)
    (hlow : t.sp - 2 ∈ w.mem s) (target : Word) : Keeps w s (callTo target t) :=
  (h.push16 hsp hhigh hlow t.pc).jump hpc target

theorem Keeps.returnTo (h : Keeps w s t) (hpc : w.pc = true) (hsp : w.sp = true) : Keeps w s (returnTo t) :=
  (h.pop16 hsp).jump hpc _

theorem Keeps.returnFromInterrupt (h : Keeps w s t) (hpc : w.pc = true) (hsp : w.sp = true) (hime : w.ime = true) :
    Keeps w s t.returnFromInterrupt :=
  (h.returnTo hpc hsp).setIme hime true false

/-- What the answered state keeps, the bytes keep. -/
theorem frameOf_of_answers {bytes : List Byte} {f : State → State} (hanswers : ∀ p, Answers p bytes f)
    (hkeeps : ∀ s, Keeps w s (f s)) : FrameOf bytes w := by
  intro p s
  obtain ⟨i, hdecode, hexec⟩ := hanswers p
  exact ⟨i, _, hdecode, hexec s, hkeeps s⟩

/-- A conditional instruction need only keep what its frame demands when it is taken (R280). -/
theorem RunsIf.frameOf {cc : Cond} {bytes : List Byte} {n m : Nat} {f : State → State}
    (hruns : RunsIf cc bytes n m f) (hkeeps : ∀ s, s.cond cc = true → Keeps w s (f s)) : FrameOf bytes w := by
  obtain ⟨-, -, hanswers⟩ := hruns
  refine frameOf_of_answers hanswers fun s => ?_
  split
  · next htaken => exact (hkeeps s htaken).took _
  · exact (Keeps.refl w s).took _

end Sys2Proof.Claims
end

section
/-! The statements about the jumps, calls and returns (spec/45_jump_call_return.md), and the frame of these and of NOP,
HALT, STOP, DI, EI and the Invalid bytes. -/

namespace Sys2Proof.Proofs

open Sys2Proof Sys2Proof.Machine Sys2Proof.Claims

/-- Settles O49: the bytes run the shared jump, and PC plus the sign-extended byte is the statement's sum. -/
theorem jumps : Obligations.Jumps := by
  unfold Obligations.Jumps
  simp only [← add_sext16_eq_ofInt]
  exact ⟨runs_jump, runsIf_jump, runs_jumpHL, runs_jumpRelative, runsIf_jumpRelative⟩

/-- Settles O51: the bytes run the shared operations, which are `Push16` and `Pop16` of PC and a jump. -/
theorem callsAndReturns : Obligations.CallsAndReturns :=
  ⟨runs_call, runsIf_call, runs_return, runsIf_return, runs_returnFromInterrupt, runs_restart⟩

/-- Settles O27: CALL nn and RST t run the same call, which RET undoes in PC and SP. -/
theorem returnAfterCallRestores : Obligations.ReturnAfterCallRestores := by
  intro p s hs hm
  obtain ⟨-, j, hreturn, hexecReturn⟩ := runs_return p
  have hrestores : ∀ {bytes n target}, Runs bytes n (callTo target) →
      ∃ i t u, decode p bytes = .ok i [] ∧ exec i s = .next t ∧ exec j t = .next u ∧ u.pc = s.pc ∧ u.sp = s.sp := by
    intro bytes n target hruns
    obtain ⟨-, i, hcall, hexecCall⟩ := hruns p
    refine ⟨i, _, _, hcall, hexecCall s, hexecReturn _, ?_⟩
    simp only [returnTo_callTo target s _ hs hm, State.took_pc, State.took_sp, and_self]
  exact ⟨j, hreturn, fun nn => hrestores (runs_call (loByte nn) (hiByte nn)), fun y => hrestores (runs_restart y)⟩

/-- Settles O60: each form runs a shared operation, and the frame is that operation's; a condition that does not hold
leaves all but the report. -/
theorem frameOfControl : Obligations.FrameOfControl := by
  refine ⟨fun lo hi => ⟨?_, ?_⟩, fun cc lo hi => ⟨?_, ?_⟩, ?_, fun e => ?_, fun cc e => ?_, ?_, fun cc => ?_, ?_,
    fun y => ?_, ?_, ?_, ?_, ?_, fun op hop => ?_, fun n s => ?_⟩
  · exact (runs_jump lo hi).frameOf fun s => (Keeps.refl _ s).jump rfl _
  · exact (runs_call lo hi).frameOf fun s => (Keeps.refl _ s).callTo rfl rfl (by simp) (by simp) _
  · exact (runsIf_jump cc lo hi).frameOf fun s _ => (Keeps.refl _ s).jump rfl _
  · exact (runsIf_call cc lo hi).frameOf fun s htaken =>
      (Keeps.refl _ s).callTo rfl rfl (by simp [htaken]) (by simp [htaken]) _
  · exact runs_jumpHL.frameOf fun s => (Keeps.refl _ s).jump rfl _
  · exact (runs_jumpRelative e).frameOf fun s => (Keeps.refl _ s).jump rfl _
  · exact (runsIf_jumpRelative cc e).frameOf fun s _ => (Keeps.refl _ s).jump rfl _
  · exact runs_return.frameOf fun s => (Keeps.refl _ s).returnTo rfl rfl
  · exact (runsIf_return cc).frameOf fun s _ => (Keeps.refl _ s).returnTo rfl rfl
  · exact runs_returnFromInterrupt.frameOf fun s => (Keeps.refl _ s).returnFromInterrupt rfl rfl rfl
  · exact (runs_restart y).frameOf fun s => (Keeps.refl _ s).callTo rfl rfl (by simp) (by simp) _
  · exact runs_nop.frameOf fun s => Keeps.refl _ s
  · exact runs_halt.frameOf fun s => (Keeps.refl _ s).setMode rfl .halted
  · exact runs_disableInterrupts.frameOf fun s => (Keeps.refl _ s).setIme rfl false false
  · exact runs_enableInterrupts.frameOf fun s => (Keeps.refl _ s).setIme rfl s.ime true
  · exact frameOf_of_answers (answers_invalid op hop) fun s => (Keeps.refl _ s).raiseIllegalOpcode rfl op _
  · exact ⟨_, rfl, ((Keeps.refl _ s).setMode rfl .stopped).took _⟩

end Sys2Proof.Proofs
end

section
/-! SUPPORT. DAA on natural numbers (spec/46_misc.md R316), CPL as a complement (R317), and STOP with the length that
STOP_LENGTH gives it (R312; spec/30_encoding.md R111). -/

namespace Sys2Proof.Machine

open Sys2Proof.Claims

/-- A correction of DAA is applied when its flag asks for it, or after an addition when the digit is out of range. -/
theorem daaCorrection_eq_decide (flag n : Bool) (p : Prop) [Decidable p] :
    (flag || (!n && decide p)) = decide (flag = true ∨ (n = false ∧ p)) := by
  cases flag <;> cases n <;> simp

/-- The two corrections share no bit: joined as bytes they are the sum of R316. -/
theorem daaCorrections_toNat (low high : Bool) :
    ((if low then 0x06#8 else 0x00#8) ||| (if high then 0x60#8 else 0x00#8)).toNat =
      (if low then 6 else 0) + (if high then 0x60 else 0) := by
  cases low <;> cases high <;> rfl

/-- An adjustment subtracted or added as a byte, modulo 256. -/
theorem daaAdjusted_toNat (n : Bool) (a adj : Byte) :
    (if n then a - adj else a + adj).toNat =
      if n then (256 + a.toNat - adj.toNat) % 256 else (a.toNat + adj.toNat) % 256 := by
  cases n with
  | false => exact BitVec.toNat_add a adj
  | true =>
    have hadj := adj.isLt
    simp only [if_true, BitVec.toNat_sub]
    omega

/-- DAA on a byte is DAA on its number. -/
theorem daa8_eq (a : Byte) (n h c : Bool) :
    daa8 a n h c = .ofNumbers (daaResult a.toNat n h c, decide (daaResult a.toNat n h c = 0), n, false,
      decide (c = true ∨ (n = false ∧ a.toNat > 0x99))) := by
  have hnibble : (a &&& 0x0F#8).toNat = a.toNat % 16 := lowNibble_eq_mod a
  simp only [daa8, hnibble, daaCorrection_eq_decide]
  refine Flagged.mk_eq_ofNumbers ?_ _ _ _
  rw [daaAdjusted_toNat, daaCorrections_toNat]
  simp only [decide_eq_true_eq, daaResult, daaAdjustment]

theorem decimalAdjust_eq (s : State) :
    decimalAdjust s =
      (s.setReg .a (BitVec.ofNat 8 (daaResult s.a.toNat s.fN s.fH s.fC))).setFlags
        (decide (daaResult s.a.toNat s.fN s.fH s.fC = 0)) s.fN false
        (decide (s.fC = true ∨ (s.fN = false ∧ s.a.toNat > 0x99))) := by
  rw [decimalAdjust, daa8_eq]
  rfl

/-- To flip every bit of A by an exclusive or is to complement it. -/
theorem complementA_eq (s : State) : complementA s = (s.setReg .a (~~~s.a)).setFlags s.fZ true true s.fC := by
  have hflip : s.a ^^^ 0xFF#8 = ~~~s.a := BitVec.xor_allOnes
  rw [complementA, hflip]

/-- STOP runs with the second byte, or without one, that the parameters allow it. -/
theorem runsWith_stop {p : Params} {n : Option Byte} (h : (Instr.stop n).wellFormed p = true) :
    RunsWith p (encode (.stop n)) 4 fun s => { s with mode := .stopped } := by
  refine ⟨?_, .stop n, decode_encode p _ h, fun s => ?_⟩ <;> cases n <;> rfl

end Sys2Proof.Machine
end

section
/-! The statements about NOP, HALT, STOP, DI, EI, DAA, CPL, SCF and CCF (spec/46_misc.md). -/

namespace Sys2Proof.Proofs

open Sys2Proof Sys2Proof.Machine Sys2Proof.Claims

/-- Settles O53: DAA computes on the byte what the algorithm of R316 computes on its number. -/
theorem decimalAdjust : Obligations.DecimalAdjust :=
  runs_decimalAdjust.congr decimalAdjust_eq

/-- Settles O52: each byte runs its shared operation; STOP is well-formed with a second byte under the length two, and
without one under the length one. -/
theorem nopHaltStopDiEi : Obligations.NopHaltStopDiEi := by
  refine ⟨runs_nop, runs_halt, fun p => ⟨fun hlen n => ?_, fun hlen => ?_⟩, runs_disableInterrupts,
    runs_enableInterrupts⟩
  · exact runsWith_stop (n := some n) (by simp [Instr.wellFormed, hlen])
  · exact runsWith_stop (n := none) (by simp [Instr.wellFormed, hlen])

/-- Settles O54: SCF and CCF run as the statement has them, and CPL's exclusive or is the complement. -/
theorem complementAndCarryFlag : Obligations.ComplementAndCarryFlag :=
  ⟨runs_complementA.congr complementA_eq, runs_setCarry, runs_complementCarry⟩

end Sys2Proof.Proofs
end

section
/-! SUPPORT. What the outside presents before a step (spec/10_state.md R44 to R46, spec/70_reset_and_hazards.md R380,
R381, R406), field by field, and what its transition does not read: the mode, `irq` and `irq_vector`. -/

namespace Sys2Proof.Machine

/-- The outside's writes are stored in order in the plain array (R62, R76); the oracle drops them (assumption 12). -/
theorem State.externalWrites_mem (ws : List (Word × Byte)) (s : State) :
    (ws.foldl State.externalWrite s).mem =
      if s.params.bus = .plain then ws.foldl (fun m w => m.write w.1 w.2) s.mem else s.mem := by
  induction ws generalizing s with
  | nil => exact (ite_self s.mem).symm
  | cons w ws ih =>
    rw [List.foldl_cons, ih]
    cases hbus : s.params.bus <;> simp [State.externalWrite, hbus]

theorem State.stimulus_cons {s : State} {x : Stimulus} {later : List Stimulus} (h : s.inputs = x :: later) :
    s.stimulus = x := by
  rw [State.stimulus, h, List.headD_cons]

theorem State.stimulus_nil {s : State} (h : s.inputs = []) : s.stimulus = .quiet := by
  rw [State.stimulus, h, List.headD_nil]

/-- A quiet outside changes nothing but `irq_ack`. -/
theorem State.outside_nil {s : State} (h : s.inputs = []) : s.outside = { s with irqAck := false } := by
  have htail : s.inputs.tail = s.inputs := by rw [h, List.tail_nil]
  rw [State.outside_eq, State.stimulus_nil h, htail]
  rfl

/-- Without Reset the outside leaves the registers alone (R49). -/
theorem State.outside_snapshot {s : State} (h : s.stimulus.reset = false) : s.outside.snapshot = s.snapshot := by
  rw [State.outside_eq, h]
  cases s.stimulus.imeSet <;> rfl

/-- Without Reset the outside leaves the mode alone. -/
theorem State.outside_mode {s : State} (h : s.stimulus.reset = false) : s.outside.mode = s.mode := by
  rw [State.outside_eq, h]
  cases s.stimulus.imeSet <;> rfl

/-- Without Reset and ImeSet the outside leaves IME and a pending EI alone. -/
theorem State.outside_ime {s : State} (hreset : s.stimulus.reset = false) (hset : s.stimulus.imeSet = none) :
    s.outside.ime = s.ime ∧ s.outside.imePending = s.imePending := by
  rw [State.outside_eq, hreset, hset]
  exact ⟨rfl, rfl⟩

/-- Without writes the outside leaves memory alone, Reset or not (R381). -/
theorem State.outside_mem {s : State} (h : s.stimulus.writes = []) : s.outside.mem = s.mem := by
  rw [State.outside_eq, h]
  cases s.stimulus.reset <;> cases s.stimulus.imeSet <;> rfl

/-- The outside's transition neither reads the mode nor gives it a value that waking does not replace. -/
theorem State.wake_outside_setMode (s : State) (m : Mode) :
    ({ s with mode := m } : State).outside.wake = s.outside.wake := by
  have hstimulus : ({ s with mode := m } : State).stimulus = s.stimulus := rfl
  rw [State.outside_eq, State.outside_eq, hstimulus, State.externalWrites_mem, State.externalWrites_mem]
  cases s.stimulus.reset <;> cases s.stimulus.imeSet <;> rfl

/-- The outside's transition does not read `irq` and `irq_vector`. -/
theorem State.outside_setIrq {s : State} {x : Stimulus} {later : List Stimulus} (h : s.inputs = x :: later)
    (irq : Bool) (vector : Word) :
    ({ s with inputs := { x with irq := irq, irqVector := vector } :: later } : State).outside = s.outside := by
  simp only [State.outside, State.stimulus, h]
  rfl

end Sys2Proof.Machine
end

section
/-! SUPPORT. Each way of a step as an equation (spec/60_exceptions.md R340, R353): `step_cases` read from the conditions
to the state, for statements that say what a step is. -/

namespace Sys2Proof.Machine

/-- Line a of R340. -/
theorem step_faulted {s : State} {x : IllegalOpcode} (h : s.outside.fault = some x) :
    step s = .next (s.outside.reportFault x) := by
  simp only [step, State.way, h]

/-- Line 1 of R340, asleep (R341, R342). -/
theorem step_idle {s : State} (hfault : s.outside.fault = none) (hmode : s.outside.mode ≠ .running)
    (hirq : s.stimulus.irq = false) : step s = .next s.outside.idle := by
  simp only [step, State.way, hfault, if_pos (And.intro hmode hirq)]

/-- Lines b to 7 of R340: a core that runs or wakes goes on from mode Running, and reads nothing of the mode it had. -/
theorem step_awake {s : State} (hfault : s.outside.fault = none)
    (hawake : s.outside.mode = .running ∨ s.stimulus.irq = true) :
    step s =
      if s.outside.wake.params.irqDispatch = true ∧ s.stimulus.irq = true ∧ s.outside.wake.ime = true then
        .next (s.outside.wake.dispatchIrq s.stimulus.irqVector)
      else s.outside.wake.execute := by
  have hidle : ¬ (s.outside.mode ≠ .running ∧ s.stimulus.irq = false) := by
    rcases hawake with h | h <;> simp [h]
  simp only [step, State.way, hfault, if_neg hidle]
  by_cases hdispatch : s.outside.params.irqDispatch = true ∧ s.stimulus.irq = true ∧ s.outside.ime = true
  · rw [if_pos hdispatch]
    exact (if_pos hdispatch).symm
  · rw [if_neg hdispatch]
    exact (if_neg hdispatch).symm

/-- Lines c to 7 of R340. -/
theorem step_execute {s : State} (hfault : s.outside.fault = none)
    (hawake : s.outside.mode = .running ∨ s.stimulus.irq = true)
    (hnodispatch : ¬ (s.outside.params.irqDispatch = true ∧ s.stimulus.irq = true ∧ s.outside.ime = true)) :
    step s = s.outside.wake.execute :=
  (step_awake hfault hawake).trans (if_neg hnodispatch)

/-- An instruction of a running core is its meaning at the fetched state, then line d. -/
theorem State.execute_of_exec {s u : State} (h : exec s.fetch.1 s.fetch.2 = .next u) :
    s.execute = .next (u.settleIme s.imePending) := by
  simp only [State.execute, h]

theorem State.execute_next (s : State) : ∃ t, s.execute = .next t := by
  obtain ⟨u, hu⟩ := exec_next s.fetch.1 s.fetch.2
  exact ⟨_, State.execute_of_exec hu⟩

/-- On the plain array a fetch decodes the three bytes at PC, and only PC moves, behind the bytes used (R92). -/
theorem State.fetch_of_decode {s : State} {i : Instr} {rest : List Byte} (hbus : s.params.bus = .plain)
    (hdecode : decode s.params [s.mem.read s.pc, s.mem.read (s.pc + 1), s.mem.read (s.pc + 2)] = .ok i rest) :
    s.fetch = (i, { s with pc := s.pc + BitVec.ofNat 16 (3 - rest.length) }) := by
  rw [decode_three] at hdecode
  injection hdecode with hi hrest
  have hle := operandBytes_le s.params (shapeOf (s.mem.read s.pc))
  rw [s.fetch_eq, State.fetchBytes_plain _ s hbus, State.fetchLength, State.fetchByte_plain s hbus, ← hi, ← hrest]
  generalize operandBytes s.params (shapeOf (s.mem.read s.pc)) = k at hle ⊢
  interval_cases k <;> rfl

end Sys2Proof.Machine
end

section
/-! SUPPORT. A pending EI through one instruction and line d (spec/60_exceptions.md R346, spec/46_misc.md R314). -/

namespace Sys2Proof.Machine

/-- Line d as one case split. -/
theorem State.settleIme_eq (s : State) (p : Bool) :
    s.settleIme p =
      if s.fault = none ∧ p = true ∧ s.imePending = true then { s with ime := true, imePending := false }
      else s := by
  rcases s.settleIme_cases p with ⟨hfault, hp, hpending, h⟩ | ⟨hnot, h⟩
  · rw [h, if_pos ⟨hfault, hp, hpending⟩]
  · rw [h, if_neg hnot]

/-- DI is the one instruction with its operation. -/
theorem effectOf_eq_di {i : Instr} (h : effectOf i = .di) : i = .di := by
  cases i with
  | di => rfl
  | _ => cases h

/-- An EI that is pending before an operation other than DI is pending after it too, unless RETI has set IME by itself;
an Invalid byte latches its fault and leaves IME and the EI. -/
theorem Effect.controlAfter_pending {e : Effect} (he : e ≠ .di) (pc : Word) {k : Control} (hfault : k.fault = none)
    (hpending : k.imePending = true) :
    ((e.controlAfter pc k).fault = none ∧ (e.controlAfter pc k).imePending = true) ∨
    ((e.controlAfter pc k).fault = none ∧ (e.controlAfter pc k).ime = true ∧
      (e.controlAfter pc k).imePending = false) ∨
    ((e.controlAfter pc k).fault ≠ none ∧ (e.controlAfter pc k).ime = k.ime ∧
      (e.controlAfter pc k).imePending = true) := by
  cases e with
  | di => exact absurd rfl he
  | reti => exact .inr (.inl ⟨hfault, rfl, rfl⟩)
  | illegal op => exact .inr (.inr ⟨Option.some_ne_none _, rfl, hpending⟩)
  | ei => exact .inl ⟨hfault, rfl⟩
  | _ => exact .inl ⟨hfault, hpending⟩

/-- DI withdraws a pending EI, so that line d has nothing to apply (R313). -/
theorem exec_di_settled {s u : State} (h : exec .di s = .next u) (p : Bool) :
    (u.settleIme p).ime = false ∧ (u.settleIme p).imePending = false := by
  cases h
  rw [State.settleIme_eq, if_neg (by rintro ⟨-, -, hpending⟩; cases hpending)]
  exact ⟨rfl, rfl⟩

/-- After an EI with none pending before it, line d leaves IME as it was and the EI pending (R314). -/
theorem exec_ei_settled {s u : State} (h : exec .ei s = .next u) :
    (u.settleIme false).ime = s.ime ∧ (u.settleIme false).imePending = true := by
  cases h
  rw [State.settleIme_eq, if_neg (by rintro ⟨-, hp, -⟩; cases hp)]
  exact ⟨rfl, rfl⟩

/-- What `Effect.controlAfter_pending` says of an operation, of the instruction that executes it. -/
theorem exec_pending {i : Instr} {s u : State} (h : exec i s = .next u) (hi : i ≠ .di) (hfault : s.fault = none)
    (hpending : s.imePending = true) :
    (u.fault = none ∧ u.imePending = true) ∨
    (u.fault = none ∧ u.ime = true ∧ u.imePending = false) ∨
    (u.fault ≠ none ∧ u.ime = s.ime ∧ u.imePending = true) := by
  have hafter := Effect.controlAfter_pending (mt effectOf_eq_di hi) s.pc (k := s.control) hfault hpending
  rw [← exec_control h] at hafter
  exact hafter

/-- After another instruction than DI, an EI pending before it has taken effect, unless a fault was latched (R346). -/
theorem exec_pending_settled {i : Instr} {s u : State} (h : exec i s = .next u) (hi : i ≠ .di)
    (hfault : s.fault = none) (hpending : s.imePending = true) :
    if (u.settleIme true).fault = none then (u.settleIme true).ime = true ∧ (u.settleIme true).imePending = false
    else (u.settleIme true).ime = s.ime ∧ (u.settleIme true).imePending = true := by
  have hsettle := u.settleIme_eq true
  rcases exec_pending h hi hfault hpending with ⟨hu, hp⟩ | ⟨hu, hime, hp⟩ | ⟨hu, hime, hp⟩
  · rw [if_pos ⟨hu, rfl, hp⟩] at hsettle
    rw [hsettle, if_pos hu]
    exact ⟨rfl, rfl⟩
  · rw [if_neg (by simp [hp])] at hsettle
    rw [hsettle, if_pos hu]
    exact ⟨hime, hp⟩
  · rw [if_neg (by simp [hu])] at hsettle
    rw [hsettle, if_neg hu]
    exact ⟨hime, hp⟩

end Sys2Proof.Machine
end

section
/-! The statements about the Invalid bytes (spec/47_invalid.md), the step (spec/60_exceptions.md) and what the outside
does before it (spec/70_reset_and_hazards.md), each from the lemmas above. -/

namespace Sys2Proof.Proofs

open Sys2Proof Sys2Proof.Machine Sys2Proof.Claims

/-- Settles O55: each of the eleven bytes answers with `State.raiseIllegalOpcode`, which is the update of the latch and
the report. -/
theorem invalidOpcodesTakeTheException : Obligations.InvalidOpcodesTakeTheException :=
  answers_invalid

/-- Settles O17: of the four ways of a step only the last executes, and an instruction always has a next state. -/
theorem everyStepHasANextState : Obligations.EveryStepHasANextState := by
  intro s
  simp only [step]
  cases s.outside.way s.stimulus.irq with
  | faulted x => exact ⟨_, rfl⟩
  | idle => exact ⟨_, rfl⟩
  | dispatch => exact ⟨_, rfl⟩
  | execute => exact s.outside.wake.execute_next

/-- Settles O10: once awake, a step reads the woken state alone, and that is the same from every mode. -/
theorem irqWakesInTheSameStep : Obligations.IrqWakesInTheSameStep := by
  intro s m hirq hfault
  have hwake := s.wake_outside_setMode m
  have hfault' : ({ s with mode := m } : State).outside.fault = none := (congrArg State.fault hwake).trans hfault
  rw [step_awake hfault (.inr hirq), step_awake hfault' (.inr hirq), hwake]
  rfl

/-- Settles O16: such a step is `exec` and then line d; DI, EI and every other instruction have each its lemma. -/
theorem pendingEiTakesEffectAfterTheNextInstruction : Obligations.PendingEiTakesEffectAfterTheNextInstruction := by
  intro s t hfault hawake hnodispatch hstep
  obtain ⟨u, hu⟩ := exec_next s.outside.wake.fetch.1 s.outside.wake.fetch.2
  rw [step_execute hfault hawake hnodispatch, State.execute_of_exec hu] at hstep
  injection hstep with ht
  subst ht
  refine ⟨fun hpending => ?_, fun hpending hei => ?_⟩
  · split
    · next hdi =>
      rw [hdi] at hu
      exact exec_di_settled hu _
    · next hdi =>
      have hsettled := exec_pending_settled hu hdi (by simpa using hfault) (by simpa using hpending)
      rw [State.wake_imePending, hpending]
      simpa using hsettled
  · rw [hei] at hu
    rw [State.wake_imePending, hpending]
    simpa using exec_ei_settled hu

/-- Settles O7: the fetch answers the decoded instruction with PC behind it, and line d is `State.settleIme`. -/
theorem stepRunsTheDecodedInstruction : Obligations.StepRunsTheDecodedInstruction := by
  intro s t i rest hfault hawake hnodispatch hbus hdecode hexec
  have hfetch : s.outside.wake.fetch = _ := State.fetch_of_decode hbus hdecode
  have hu : exec s.outside.wake.fetch.1 s.outside.wake.fetch.2 = .next t := by
    rw [hfetch]
    exact hexec
  rw [step_execute hfault hawake hnodispatch, State.execute_of_exec hu, State.settleIme_eq]
  rfl

/-- Settles O9, by line 1 of R340. -/
theorem idleStepChangesNothing : Obligations.IdleStepChangesNothing := by
  intro s hfault hmode hirq
  have hasleep : s.outside.mode ≠ .running := by
    rcases hmode with hm | hm <;> rw [hm] <;> decide
  exact step_idle hfault hasleep hirq

/-- Settles O11: without Reset the latch is there when the step begins, and so is what the outside does not name. -/
theorem latchedFaultIsReportedAgain : Obligations.LatchedFaultIsReportedAgain := by
  intro s x hx hreset
  have hlatched : s.outside.fault = some x := (s.outside_fault hreset).trans hx
  exact ⟨step_faulted hlatched, hlatched, State.outside_snapshot hreset, State.outside_mode hreset,
    State.outside_ime hreset, State.outside_mem⟩

/-- Settles O14: the dispatch of `step_awake`, with the state written out. -/
theorem interruptDispatch : Obligations.InterruptDispatch :=
  fun _ hfault hdispatch hirq hime =>
    (step_awake hfault (.inr hirq)).trans (if_pos ⟨hdispatch, hirq, hime⟩)

/-- Settles O15: the outside does not read the two inputs. Then a latched fault is reported again, and without one
`IRQ_DISPATCH` off leaves only the execution of the next instruction. -/
theorem irqIsIgnoredWhileRunning : Obligations.IrqIsIgnoredWhileRunning := by
  intro s x later irq vector hinputs hmode hoff
  have houtside := State.outside_setIrq hinputs irq vector
  cases hfault : s.outside.fault with
  | some fault => rw [step_faulted hfault, step_faulted (houtside ▸ hfault), houtside]
  | none =>
    have hnodispatch : ∀ p : Prop, ¬ (s.outside.params.irqDispatch = true ∧ p) := by
      rintro p ⟨hon, -⟩
      rw [hoff] at hon
      cases hon
    rw [step_execute hfault (.inl hmode) (hnodispatch _),
      step_execute (houtside ▸ hfault) (.inl (houtside ▸ hmode)) (houtside ▸ hnodispatch _), houtside]

/-- Settles O13: `State.outside_eq`, with the outside's writes as `State.externalWrites_mem` gives them on each bus. -/
theorem resetThenImeSetBeforeTheStep : Obligations.ResetThenImeSetBeforeTheStep := by
  refine ⟨fun s x later hinputs => ?_, fun s => State.outside_nil⟩
  rw [State.outside_eq, State.stimulus_cons hinputs, hinputs, List.tail_cons, State.externalWrites_mem]
  cases s.params.bus <;> cases x.imeSet <;> rfl

end Sys2Proof.Proofs
end
